-- ==== Sys2Proof/Word.lean ====
section
/-! DEFINITION. The number types of the J-828 and their plainest arithmetic (00_scope.md, section 5). -/

namespace Sys2Proof

/-- One byte of a link frame or of a supply-bus packet. -/
abbrev Byte := BitVec 8

/-- A 32-bit word: a word of a key, of a digest, the nonce count, the boot number. -/
abbrev Word := BitVec 32

/-- A value of the tick count, which counts milliseconds modulo 2^32 (R1). -/
abbrev Tick := BitVec 32

/-- One of the eight cartridge slots, numbered 0 to 7. -/
abbrev SlotNo := Fin 8

/-- One of the 32 entry places of the History Store, numbered 0 to 31 (R128). -/
abbrev Place := Fin 32

/-- The slots in number order. -/
def allSlots : List SlotNo := [0, 1, 2, 3, 4, 5, 6, 7]

/-- The entry places in number order. -/
def allPlaces : List Place :=
  [0, 1, 2, 3, 4, 5, 6, 7, 8, 9, 10, 11, 12, 13, 14, 15,
   16, 17, 18, 19, 20, 21, 22, 23, 24, 25, 26, 27, 28, 29, 30, 31]

/-- The largest value of a 32-bit volume or count: 4,294,967,295. -/
def max32 : Nat := 4294967295

/-- The milliseconds from the stamp `start` to the tick count `now`, modulo 2^32 (R1). -/
def elapsed (now start : Tick) : Nat := (now - start).toNat

end Sys2Proof
end

