-- ==== Sys2Proof/Syntax.lean ====
section
/-! DEFINITION. The commands of the J-828: one constructor of `Instr` for each row of spec/opcode_table.json, with its operands. -/

namespace Sys2Proof

/-- The two links (10_engine_and_system_links.md). -/
inductive Link where
  | engine | system
  deriving DecidableEq, Repr

/-- A whole request frame of a known command, as R157 reads it: the link that received it, the payload whose
length the length byte gave, and how many padding bytes followed (their contents are ignored). -/
structure Frame where
  link : Link
  payload : List Byte
  padding : Nat
  deriving DecidableEq, Repr

/-- A 128-bit key as four 32-bit words (R56, R58). -/
structure Key where
  k0 : Word
  k1 : Word
  k2 : Word
  k3 : Word
  deriving DecidableEq, Repr

/-- A set of cartridge marks: EXHAUSTED, SUSPECT, SEAL. -/
structure Marks where
  exhausted : Bool
  suspect : Bool
  sealMark : Bool
  deriving DecidableEq, Repr

/-- What a cartridge keeps across a loss of its own power, and its seal sense (section 2.4, R27).
The capacity, the generation and the marks are whatever the cartridge's memory holds, so that a cartridge that is
not genuine can be described as well. -/
structure CartridgeMemory where
  serial : BitVec 64
  inkCode : BitVec 16
  generation : BitVec 4
  capacity : Word
  key : Key
  used : Word
  marks : Marks
  sealBroken : Bool
  deriving DecidableEq, Repr

/-- How far an exchange or scan comes within the step that begins it, and how it fares on the lines (R19, R20, R24, R27,
R33). `whole` holds the slots whose cartridges receive the request whole, of those that are selected and hold one. -/
inductive Claim where
  /-- SB_DAT is found low after the claim. -/
  | held
  /-- SB_DAT is high, and the request is sent to its end. -/
  | sent (whole : BitVec 8)
  /-- SB_DAT is high, and the step ends while the request is being sent: the exchange stands in REQUEST. -/
  | sending (whole : BitVec 8)
  /-- The step ends with the select lines asserted and SB_DAT, which is high, being sampled: the exchange stands in
  CLAIMED, with SELECTED reached. -/
  | selecting (whole : BitVec 8)
  /-- The step ends with SB_CLK raised and no select line asserted yet, on the way to CLAIMED. -/
  | claimed (whole : BitVec 8)
  deriving DecidableEq, Repr

/-- The request is sent to its end and no cartridge receives it whole: corrupted, or nobody listens. -/
def Claim.lost : Claim := .sent 0x00

/-- The request is sent to its end, and the cartridge of each selected slot that holds one receives it whole. -/
def Claim.arrives : Claim := .sent 0xFF

/-- The reply bytes that the device reads. -/
inductive ReplyLine where
  /-- The bytes that the selected cartridge sends, unaltered. -/
  | asSent
  /-- Other bytes: a reply corrupted on the line, or one of a cartridge that does not behave as section 2.4 requires. -/
  | read (bytes : List Byte)
  deriving DecidableEq, Repr

/-- The levels the device samples in the eight answer periods of a scan (R33). -/
inductive AnswerLine where
  /-- Each scanned cartridge answers as R33 requires of it. -/
  | asDriven
  /-- The levels read instead, bit k set for a low level in period k. -/
  | read (lows : BitVec 8)
  deriving DecidableEq, Repr

/-- The level that SB_DAT takes on the idle bus. -/
inductive DatLine where
  /-- Low exactly while some cartridge pulls it for attention as R30 requires. -/
  | asPulled
  /-- The level read instead. -/
  | read (low : Bool)
  deriving DecidableEq, Repr

/-- What the lines show at the end of a power-on or RESET pin reset, which may have lasted any time:
the presence lines that are low (R4), the service lines that are high (R79), whether the supply stands at or above
the rising threshold (R170), and the cartridges that gained power while the reset lasted. -/
structure ResetLines where
  presenceLow : BitVec 8
  serviceHigh : BitVec 8
  supplyAtRising : Bool
  powered : List (SlotNo × CartridgeMemory)
  deriving DecidableEq, Repr

/-- The two reading commands whose reports a tally's records change (R93). -/
inductive MeterRead where
  | levels | slot
  deriving DecidableEq, Repr

/-- A read that the System Link takes between two records of a JET TALLY (R93; log entry 39): how many of the records have
been taken by then, the command, and the payload and padding of its frame. -/
structure TallyRead where
  after : Nat
  command : MeterRead
  payload : List Byte
  padding : Nat
  deriving DecidableEq, Repr

/-- The frame of such a read. -/
def TallyRead.frame (r : TallyRead) : Frame := ⟨.system, r.payload, r.padding⟩

/-- A JET TALLY: its frame, and what the System Link reads while its records are taken, in order (R76, R93). -/
structure Tally where
  frame : Frame
  reads : List TallyRead
  deriving DecidableEq, Repr

/-- The commands: the operations of the two links, and the events on the pins, the buses and the timers. -/
inductive Instr where
  | nop (f : Frame)
  | readLevels (f : Frame)
  | readEvents (f : Frame)
  | setMask (f : Frame)
  | flush (f : Frame)
  | jetTally (t : Tally)
  | gateAck (f : Frame)
  | readSlot (f : Frame)
  | readHistory (f : Frame)
  | setMetering (f : Frame)
  | setThresholds (f : Frame)
  | setPolicy (f : Frame)
  | setGrace (f : Frame)
  | checkSlot (f : Frame)
  | forceGate (f : Frame)
  | acceptSuspect (f : Frame)
  | lamp (f : Frame)
  | setWakeMask (f : Frame)
  | setAudit (f : Frame)
  | provisionKeys (f : Frame)
  | standby (f : Frame)
  | wake (f : Frame)
  | resetPart (f : Frame)
  /-- A frame that is discarded: the bytes received between the fall and the rise of chip-select. -/
  | framing (link : Link) (received : List Byte)
  /-- A whole frame whose code is no command's. -/
  | unknown (code : Byte) (f : Frame)
  | powerOn (lines : ResetLines)
  | resetPin (lines : ResetLines)
  /-- The presence line of the slot goes from high to low. `some c`: a cartridge with memory c gains power in the
  slot; `none`: the contact of the cartridge already there closes again. -/
  | fallingEdge (slot : SlotNo) (cartridge : Option CartridgeMemory)
  | risingEdge (slot : SlotNo)
  | settleExpiry (slot : SlotNo)
  | removalExpiry (slot : SlotNo)
  | supplyLow
  | supplyNormal
  | stroke (slot : SlotNo)
  | valveMillisecond (slot : SlotNo)
  | trailingEdge (slot : SlotNo)
  /-- Any other service-line edge: the level the line takes. -/
  | serviceLineLevel (slot : SlotNo) (high : Bool)
  | auditExpiry
  | lampFrameBoundary
  | locateExpiry (slot : SlotNo)
  | graceExpiry (slot : SlotNo)
  | attention
  | grant (claim : Claim)
  | readySignal
  /-- `followOn` is how the follow-on exchange fares, if the reply calls for one (R45). -/
  | replyReceived (reply : ReplyLine) (followOn : Claim)
  | replyWindowExpiry
  | retrySpacingExpiry (claim : Claim)
  | scanEnds (answers : AnswerLine)
  | storeWriteStart
  /-- `agrees`: the copy read back agrees with the content written. -/
  | storeWriteComplete (agrees : Bool)
  /-- `supplyAtRising`: the supply stands at or above the rising threshold at the end of the reset. -/
  | resetPartActs (supplyAtRising : Bool)
  | enterStandby
  | tickCountAdvance
  | sealSenseBroken (slot : SlotNo)
  /-- `line`: the level that SB_DAT takes on the idle bus. -/
  | sbDatLevelChange (line : DatLine)
  deriving DecidableEq, Repr

/-- The command that a read during a tally is by itself. -/
def TallyRead.instr (r : TallyRead) : Instr :=
  match r.command with
  | .levels => .readLevels r.frame
  | .slot => .readSlot r.frame

end Sys2Proof
end

