-- ==== Sys2Proof/Machine/Codes.lean ====
section
/-! DEFINITION. Byte order and the codes of the link frames (12_frame_and_packet_formats.md, sections 12.1 and 12.3). -/

namespace Sys2Proof.Machine

open Sys2Proof

/-- The `n` bytes of the number `x` modulo 2^(8n), most significant first (chapter 12: every value is sent so). -/
def beBytes : Nat → Nat → List Byte
  | 0, _ => []
  | n + 1, x => beBytes n (x / 256) ++ [BitVec.ofNat 8 x]

/-- The number that bytes spell, most significant first. -/
def beNat (bytes : List Byte) : Nat := bytes.foldl (fun a b => a * 256 + b.toNat) 0

/-- The signed number that two bytes spell in two's complement. -/
def beInt16 (hi lo : Byte) : Int := (hi ++ lo).toInt

/-- The slot that a byte numbers, if it is at most 7. -/
def slotOfByte (b : Byte) : Option SlotNo :=
  if h : b.toNat < 8 then some ⟨b.toNat, h⟩ else none

/-- The slots of a slot set, in number order: bit k stands for slot k. -/
def slotsOfSet (set : Byte) : List SlotNo := allSlots.filter fun i => set.getLsbD i.val

/-- The slot set that holds the slots of which `p` holds. -/
def setOfSlots (p : SlotNo → Bool) : Byte :=
  BitVec.ofNat 8 ((allSlots.map fun i => if p i then 2 ^ i.val else 0).sum)

/-- The byte whose bit k is the k-th Boolean of the list. -/
def byteOfBits : List Bool → Nat
  | [] => 0
  | b :: bs => b.toNat + 2 * byteOfBits bs

/-! Command codes. -/

def codeNop : Byte := 0x00
def codeReadLevels : Byte := 0x01
def codeReadEvents : Byte := 0x02
def codeSetMask : Byte := 0x03
def codeFlush : Byte := 0x04
def codeJetTally : Byte := 0x10
def codeGateAck : Byte := 0x11
def codeReadSlot : Byte := 0x20
def codeReadHistory : Byte := 0x21
def codeSetMetering : Byte := 0x22
def codeSetThresholds : Byte := 0x23
def codeSetPolicy : Byte := 0x24
def codeSetGrace : Byte := 0x25
def codeCheckSlot : Byte := 0x26
def codeForceGate : Byte := 0x27
def codeAcceptSuspect : Byte := 0x28
def codeLamp : Byte := 0x29
def codeSetWakeMask : Byte := 0x2A
def codeSetAudit : Byte := 0x2B
def codeProvisionKeys : Byte := 0x2C
def codeStandby : Byte := 0x30
def codeWake : Byte := 0x31
def codeResetPart : Byte := 0x32

/-- Every command code of section 12.1. -/
def commandCodes : List Byte :=
  [codeNop, codeReadLevels, codeReadEvents, codeSetMask, codeFlush, codeJetTally, codeGateAck, codeReadSlot,
   codeReadHistory, codeSetMetering, codeSetThresholds, codeSetPolicy, codeSetGrace, codeCheckSlot, codeForceGate,
   codeAcceptSuspect, codeLamp, codeSetWakeMask, codeSetAudit, codeProvisionKeys, codeStandby, codeWake, codeResetPart]

/-- The longest payload a request frame may carry (R157). -/
def maxPayload : Nat := 96

/-- Whether the bytes of a transaction make a frame that is discarded: short, or with a length byte above 96 (R157). -/
def discardedFrame : List Byte → Bool
  | [] => true
  | [_] => true
  | _ :: n :: rest => decide (maxPayload < n.toNat) || decide (rest.length < n.toNat)

end Sys2Proof.Machine
end

