-- ==== Sys2Proof/WellFormed.lean ====
section
/-! DEFINITION. Which terms of `Instr` are commands of the device: the conditions that the types of the operands do not carry. -/

namespace Sys2Proof

/-- A whole frame's payload is at most 96 bytes long (R157). -/
def Frame.wf (f : Frame) : Bool := decide (f.payload.length ≤ Machine.maxPayload)

/-- The reads taken during a JET TALLY of `n` payload bytes: each between two records of 10 bytes, and in order (R93). -/
def tallyReadsOk (n : Nat) (reads : List TallyRead) : Bool :=
  reads.all (fun r => decide (1 ≤ r.after ∧ 10 * r.after < n) && r.frame.wf) &&
    decide (reads.Pairwise fun a b => a.after ≤ b.after)

/-- A reply that the device has read whole has the fixed length of some op (section 12.4). -/
def ReplyLine.wf : ReplyLine → Bool
  | .asSent => true
  | .read bytes => [22, 10, 6, 3, 4].contains bytes.length

/-- No slot is named twice among the cartridges that gained power, and each sits at a presence line that is low. -/
def ResetLines.wf (l : ResetLines) : Bool :=
  decide (l.powered.map Prod.fst).Nodup && l.powered.all fun p => l.presenceLow.getLsbD p.1.val

/-- The well-formed commands. -/
def Instr.wf : Instr → Bool
  | .nop f | .readLevels f | .readEvents f | .setMask f | .flush f | .gateAck f | .readSlot f
  | .readHistory f | .setMetering f | .setThresholds f | .setPolicy f | .setGrace f | .checkSlot f | .forceGate f
  | .acceptSuspect f | .lamp f | .setWakeMask f | .setAudit f | .provisionKeys f | .standby f | .wake f
  | .resetPart f => f.wf
  | .jetTally t => t.frame.wf && tallyReadsOk t.frame.payload.length t.reads
  | .framing _ received => Machine.discardedFrame received
  | .unknown code f => f.wf && !Machine.commandCodes.contains code
  | .powerOn l | .resetPin l => l.wf
  | .replyReceived reply _ => reply.wf
  | .fallingEdge _ _ | .risingEdge _ | .settleExpiry _ | .removalExpiry _ | .supplyLow | .supplyNormal | .stroke _
  | .valveMillisecond _ | .trailingEdge _ | .serviceLineLevel _ _ | .auditExpiry | .lampFrameBoundary
  | .locateExpiry _ | .graceExpiry _ | .attention | .grant _ | .readySignal | .replyWindowExpiry
  | .retrySpacingExpiry _ | .scanEnds _ | .storeWriteStart | .storeWriteComplete _ | .resetPartActs _
  | .enterStandby | .tickCountAdvance | .sealSenseBroken _ | .sbDatLevelChange _ => true

end Sys2Proof
end

