-- ==== Sys2Proof/Decode.lean ====
section
/-! DEFINITION. From the bytes of a transaction to the command they spell (R157, section 12.1), and back.
The opcode table gives no row any bits, so `decodeTableWord` reads no word. -/

namespace Sys2Proof

open Machine

/-- The command that a table word spells. No row of spec/opcode_table.json gives bits: the rows are the commands of
the links, whose frames are byte strings (`decodeFrame`), and the events on the pins, buses and timers. -/
def decodeTableWord (_nbits _w : Nat) : Option Instr := none

/-- The command of a whole frame, by its code (section 12.1). -/
def decodeCommand (code : Byte) (f : Frame) : Instr :=
  if code = codeNop then .nop f
  else if code = codeReadLevels then .readLevels f
  else if code = codeReadEvents then .readEvents f
  else if code = codeSetMask then .setMask f
  else if code = codeFlush then .flush f
  else if code = codeJetTally then .jetTally ⟨f, []⟩
  else if code = codeGateAck then .gateAck f
  else if code = codeReadSlot then .readSlot f
  else if code = codeReadHistory then .readHistory f
  else if code = codeSetMetering then .setMetering f
  else if code = codeSetThresholds then .setThresholds f
  else if code = codeSetPolicy then .setPolicy f
  else if code = codeSetGrace then .setGrace f
  else if code = codeCheckSlot then .checkSlot f
  else if code = codeForceGate then .forceGate f
  else if code = codeAcceptSuspect then .acceptSuspect f
  else if code = codeLamp then .lamp f
  else if code = codeSetWakeMask then .setWakeMask f
  else if code = codeSetAudit then .setAudit f
  else if code = codeProvisionKeys then .provisionKeys f
  else if code = codeStandby then .standby f
  else if code = codeWake then .wake f
  else if code = codeResetPart then .resetPart f
  else .unknown code f

/-- R157: what a link makes of the bytes received in one transaction. The first byte is the code, the second the
length n, the next n the payload, and the rest padding; a short frame and a length above 96 are discarded. -/
def decodeFrame (link : Link) (received : List Byte) : Instr :=
  match received with
  | [] => .framing link []
  | [b] => .framing link [b]
  | code :: n :: rest =>
    if maxPayload < n.toNat ∨ rest.length < n.toNat then .framing link received
    else decodeCommand code ⟨link, rest.take n.toNat, rest.length - n.toNat⟩

/-- The bytes of a whole frame, with padding bytes of 0. -/
def frameBytes (code : Byte) (f : Frame) : List Byte :=
  code :: BitVec.ofNat 8 f.payload.length :: f.payload ++ List.replicate f.padding 0

/-- The link and the bytes of the transaction that carries a command of a link; none for an event that no link
carries, and for a JET TALLY with reads on the other link meanwhile, which is more than one transaction. -/
def encodeFrame : Instr → Option (Link × List Byte)
  | .nop f => some (f.link, frameBytes codeNop f)
  | .readLevels f => some (f.link, frameBytes codeReadLevels f)
  | .readEvents f => some (f.link, frameBytes codeReadEvents f)
  | .setMask f => some (f.link, frameBytes codeSetMask f)
  | .flush f => some (f.link, frameBytes codeFlush f)
  | .jetTally t => if t.reads.isEmpty then some (t.frame.link, frameBytes codeJetTally t.frame) else none
  | .gateAck f => some (f.link, frameBytes codeGateAck f)
  | .readSlot f => some (f.link, frameBytes codeReadSlot f)
  | .readHistory f => some (f.link, frameBytes codeReadHistory f)
  | .setMetering f => some (f.link, frameBytes codeSetMetering f)
  | .setThresholds f => some (f.link, frameBytes codeSetThresholds f)
  | .setPolicy f => some (f.link, frameBytes codeSetPolicy f)
  | .setGrace f => some (f.link, frameBytes codeSetGrace f)
  | .checkSlot f => some (f.link, frameBytes codeCheckSlot f)
  | .forceGate f => some (f.link, frameBytes codeForceGate f)
  | .acceptSuspect f => some (f.link, frameBytes codeAcceptSuspect f)
  | .lamp f => some (f.link, frameBytes codeLamp f)
  | .setWakeMask f => some (f.link, frameBytes codeSetWakeMask f)
  | .setAudit f => some (f.link, frameBytes codeSetAudit f)
  | .provisionKeys f => some (f.link, frameBytes codeProvisionKeys f)
  | .standby f => some (f.link, frameBytes codeStandby f)
  | .wake f => some (f.link, frameBytes codeWake f)
  | .resetPart f => some (f.link, frameBytes codeResetPart f)
  | .framing link received => some (link, received)
  | .unknown code f => some (f.link, frameBytes code f)
  | .powerOn _ | .resetPin _ | .fallingEdge _ _ | .risingEdge _ | .settleExpiry _ | .removalExpiry _ | .supplyLow
  | .supplyNormal | .stroke _ | .valveMillisecond _ | .trailingEdge _ | .serviceLineLevel _ _ | .auditExpiry
  | .lampFrameBoundary | .locateExpiry _ | .graceExpiry _ | .attention | .grant _ | .readySignal
  | .replyReceived _ _ | .replyWindowExpiry | .retrySpacingExpiry _ | .scanEnds _ | .storeWriteStart
  | .storeWriteComplete _ | .resetPartActs _ | .enterStandby | .tickCountAdvance | .sealSenseBroken _
  | .sbDatLevelChange _ => none

end Sys2Proof
end

