-- ==== Sys2Proof/Config.lean ====
section
/-! DEFINITION. What the manual leaves open: constants without a body, so that nothing can be proved of their values. -/

namespace Sys2Proof

/-- The posted amount after an addition that would take it beyond 4,294,967,295.
R99 and R100 say that posted is increased, R94 gives its range, and no rule says what such a sum leaves.
DESIGN CHOICE (log entry 2): a free value of the exact sum, of 32 bits so that the range of R94 holds. -/
opaque Config.freePosted : Nat → BitVec 32

end Sys2Proof
end

