-- ==== Sys2Proof/Machine/State.lean ====
section
/-! DEFINITION. The state of the J-828 and of the cartridges on its supply bus, as plain data, and the state after a
power-on reset. Field docstrings name the rule of spec/ that gives the item. -/

namespace Sys2Proof.Machine

open Sys2Proof

/-- Why the machine stops with a fault. The specification gives the device no event after which it stops, so there is
no constructor: no command faults. -/
inductive Fault : Type
  deriving DecidableEq, Repr

/-- Why a command has no meaning. -/
inductive Refusal where
  /-- Raised by an arm of `exec` for a command whose meaning is not written yet. Safe: nothing is claimed of it. -/
  | notModelled (mnemonic : String)
  /-- Raised by FRAMING for bytes that make a whole frame and by UNKNOWN for the code of a command: terms that
  `Instr.wf` refuses and that no transaction on a link produces. Safe: nothing is claimed of them. -/
  | illFormed
  deriving DecidableEq, Repr

/-! ## The slot record (chapter 1) -/

/-- The admission states (section 1.4). -/
inductive Admission where
  | vacant | settling | identifying | proving | admitted | rejected | mute
  deriving DecidableEq, Repr

/-- Why a verdict is FAILED (section 1.2). -/
inductive Rejection where
  | badIdentity | proofMismatch
  deriving DecidableEq, Repr

/-- The verdict, with the rejection reason, which is present exactly while the verdict is FAILED (R3). -/
inductive Verdict where
  | none | proven | failed (reason : Rejection)
  deriving DecidableEq, Repr

/-- The identity read from a cartridge, with its known marks. -/
structure Identity where
  serial : BitVec 64
  inkCode : BitVec 16
  generation : BitVec 4
  capacity : Nat
  used : Nat
  marks : Marks
  deriving DecidableEq, Repr

/-- The suspicion flags of R139 and R140, a set. -/
structure Flags where
  rollback : Bool
  sealFlag : Bool
  reuse : Bool
  swap : Bool
  mismatch : Bool
  marked : Bool
  recorded : Bool
  duplicate : Bool
  deriving DecidableEq, Repr

/-- An uncertain-debit record: the expected used and the amount of a DEBIT whose effect is not known (R94, R103). -/
structure Uncertain where
  expected : Nat
  amount : Nat
  deriving DecidableEq, Repr

/-- The metering and write-back fields that belong to the insertion (section 5.1, R94). The overdraw is a function
of them (R90) and is computed, not stored. -/
structure Meter where
  residue : Nat
  pending : Nat
  inFlight : Option Nat
  confirmed : Nat
  posted : Nat
  carriedIn : Nat
  metered : Nat
  capacity : Option Nat
  uncertain : Option Uncertain
  refreshBase : Option Nat
  saturated : Bool
  deriving DecidableEq, Repr

/-- The service modes of R79 to R82. -/
inductive ServiceMode where
  | off | stroke | valve
  deriving DecidableEq, Repr

/-- The service polarity: one stored value with two names (section 5.1). -/
inductive Polarity where
  | risingOrHigh | fallingOrLow
  deriving DecidableEq, Repr

/-- The metering configuration of a slot, as SET METERING writes it (R75). The effective drop weights are a function
of it (R74) and are computed, not stored. -/
structure MeterConfig where
  fine : Nat
  normal : Nat
  coarse : Nat
  trim : Int
  mode : ServiceMode
  polarity : Polarity
  stroke : Nat
  flow : Nat
  debitStep : Nat
  deriving DecidableEq, Repr

/-- A threshold setting (R110). -/
inductive Threshold where
  | auto | absolute (value : Nat)
  deriving DecidableEq, Repr

/-- The policies on REJECTED and on suspicion. -/
inductive ClosePolicy where
  | close | warn
  deriving DecidableEq, Repr

/-- The policy on dryness. -/
inductive DryPolicy where
  | closeAtDry | closeAtSpent | never
  deriving DecidableEq, Repr

/-- The level classes, from the mildest to the most severe (R113). -/
inductive Level where
  | normal | low | critical | dry | spent
  deriving DecidableEq, Repr

/-- A cause set (R115). -/
structure Causes where
  vacant : Bool
  pending : Bool
  operator : Bool
  rejected : Bool
  suspect : Bool
  dry : Bool
  unreachable : Bool
  deriving DecidableEq, Repr

/-- The gate states (section 7.4). -/
inductive Gate where
  | opened | draining | shut | severed
  deriving DecidableEq, Repr

/-- A running grace timer: the tick count at its start and its length (R119). -/
structure GraceTimer where
  start : Tick
  length : Nat
  deriving DecidableEq, Repr

/-- The Gate Controller's items of a slot (R110). The effective thresholds are a function of the settings and the
account capacity (R111) and are computed, not stored. -/
structure GateRecord where
  low : Threshold
  critical : Threshold
  reserve : Nat
  grace : Nat
  onRejected : ClosePolicy
  onSuspicion : ClosePolicy
  onDryness : DryPolicy
  force : Bool
  accepted : Bool
  level : Level
  causes : Causes
  gate : Gate
  graceTimer : Option GraceTimer
  forcedCloses : Nat
  deriving DecidableEq, Repr

/-- The lamp patterns (R152). -/
inductive Pattern where
  | dark | greenSteady | amberSteady | redSteady | greenFlicker | redFast | amberFast | amberBlink | alternate
  deriving DecidableEq, Repr

/-- A slot's lamp override (R155). -/
inductive Override where
  | auto | pattern (p : Pattern)
  deriving DecidableEq, Repr

/-- The Lamp Driver's items of a slot (section 9.3, R156). -/
structure LampRecord where
  shown : Pattern
  target : Pattern
  override : Override
  locate : Option Tick
  held : Bool
  deriving DecidableEq, Repr

/-- The kinds of bus work on a slot (R38); SCAN has no slot and is a `Job` of its own. -/
inductive WorkKind where
  | identify | prove | debit | mark | poll
  deriving DecidableEq, Repr

/-- The outcomes of R47. -/
inductive SeqOutcome where
  | done | applied | reconciled | mismatch | refused | failed | aborted | cancelled
  deriving DecidableEq, Repr

/-- The steps of an exchange (section 2.2). -/
inductive BusStep where
  | selected | requestSent | replyReceived | checked
  deriving DecidableEq, Repr

/-- A slot's last sequence (R49). -/
structure LastSequence where
  kind : WorkKind
  outcome : SeqOutcome
  step : Option BusStep
  attempts : Nat
  deriving DecidableEq, Repr

/-- What a cartridge reports through attention (section 2.4). -/
inductive AttentionCause where
  | none | sealCause
  deriving DecidableEq, Repr

/-- A cartridge as partner on the supply bus (section 2.4). -/
structure Cartridge where
  memory : CartridgeMemory
  attentionPending : Bool
  attentionSignalled : Bool
  attentionCause : AttentionCause
  deriving DecidableEq, Repr

/-- The slot record with the lines of the slot. `valveDue` is the model's own (log entry 5): the advances of the tick
count at an active VALVE line that VALVE_MILLISECOND has still to add. -/
structure Slot where
  presenceLow : Bool
  admission : Admission
  insertion : BitVec 8
  seatedAt : Tick
  removedAt : Option Tick
  debouncedLow : Bool
  settleTimer : Option Tick
  removalTimer : Option Tick
  identity : Option Identity
  held : Option Identity
  verdict : Verdict
  proofCount : Nat
  lastProof : Option Tick
  merged : Bool
  flags : Flags
  meter : Meter
  orphanResidue : Nat
  orphanCount : Nat
  config : MeterConfig
  serviceHigh : Bool
  valveDue : Nat
  gate : GateRecord
  lamp : LampRecord
  lastSequence : Option LastSequence
  busErrors : Nat
  cartridge : Option Cartridge
  deriving DecidableEq, Repr

/-! ## The Supply Bus Controller (chapters 2 and 3) -/

/-- The origins of a Work List entry, a set (R38). -/
structure Origins where
  internal : Bool
  system : Bool
  engine : Bool
  audit : Bool
  attention : Bool
  deriving DecidableEq, Repr

/-- Wanted marks, a set of EXHAUSTED and SUSPECT (R38). -/
structure Wanted where
  exhausted : Bool
  suspect : Bool
  deriving DecidableEq, Repr

/-- What an entry or a sequence is for: a scan, or work of a kind on a slot under an insertion number. -/
inductive Job where
  | scan
  | onSlot (kind : WorkKind) (slot : SlotNo) (insertion : BitVec 8)
  deriving DecidableEq, Repr

/-- A Work List entry (R38). Its entry order number is its position in the list, counted from 1. -/
structure Entry where
  job : Job
  origins : Origins
  urgent : Bool
  wanted : Wanted
  deriving DecidableEq, Repr

/-- Where the sequence in flight stands on the bus. `whole` holds the slots whose cartridges are to receive whole the
request that is under way (R27); a request under way is sent to its end by the next tick (log entry 4). -/
inductive Phase where
  /-- The claim: SB_CLK has risen and no select line is asserted yet (R19). -/
  | claimed (whole : BitVec 8)
  /-- CLAIMED: the select lines of `selected` are asserted, and SB_DAT is released and sampled (R18, R19, R33). -/
  | selecting (whole selected : BitVec 8)
  /-- REQUEST: the select lines of `selected` are asserted, and the request is being sent (R20, R33). -/
  | sending (whole selected : BitVec 8)
  /-- WAITING: the request has been sent; its reply window runs from the stamp (R20, R21). -/
  | waiting (since : Tick)
  /-- RECEIVING: the ready signal has been given; the same window runs on. -/
  | receiving (since : Tick)
  /-- A scan of the slots of the set has been sent and its answer periods run (R33). -/
  | scanning (scanned : BitVec 8)
  /-- The bus is idle since the stamp: between two attempts (R45), or while a result is acted on (R48). -/
  | idle (since : Tick)
  deriving DecidableEq, Repr

/-- What the Proof Unit holds with a PROVE sequence until its exchange ends: the nonce, the cartridge key and the
reference values (R64, R65). -/
structure ProveHold where
  nonceHigh : Word
  nonceLow : Word
  cartridgeKey : Key
  used : Nat
  capacity : Nat
  printerMarks : Nat
  deriving DecidableEq, Repr

/-- The sequence in flight (section 3.4). `expected`, `amount` and `reconciled` are a DEBIT's (R97, R100);
`marksSent` are the marks of a MARK's latest request (R44); `prepared` is the reply that the selected cartridge has
prepared, if it received the request whole (R27). -/
structure Sequence where
  job : Job
  origins : Origins
  urgent : Bool
  wanted : Wanted
  attempts : Nat
  step : Option BusStep
  phase : Phase
  expected : Nat
  amount : Nat
  reconciled : Bool
  marksSent : Wanted
  proveHold : Option ProveHold
  prepared : Option (List Byte)
  deriving DecidableEq, Repr

/-- The state of attention sensing (R32, R35). -/
inductive Sensing where
  | active | suspended
  deriving DecidableEq, Repr

/-- The measurement of a low level on the idle bus (R32). -/
inductive Measure where
  /-- No low level is being measured. -/
  | stopped
  /-- A low level is being measured. -/
  | running
  /-- The low level present has led to a listing and is not counted again. -/
  | counted
  deriving DecidableEq, Repr

/-! ## The Proof Unit's key store (section 4.2) -/

/-- The key store: its state, with the staged key while STORING and the master key KM while PROVISIONED. -/
inductive KeyStore where
  | blank | storing (staged : Key) | provisioned (km : Key)
  deriving DecidableEq, Repr

/-! ## The History Store (chapter 8) -/

/-- A history entry (R128). -/
structure HistoryEntry where
  serial : BitVec 64
  inkCode : BitVec 16
  capacity : Nat
  recordedUsed : Nat
  unposted : Nat
  uncertain : Option Uncertain
  flags : Flags
  seen : Nat
  lastSlot : SlotNo
  deriving DecidableEq, Repr

/-- The header item: the boot number, which wraps, and the seen number, which saturates (R129). -/
structure Header where
  boot : Word
  seen : Nat
  deriving DecidableEq, Repr

/-- One of the 34 non-volatile items (R128). -/
inductive StoreItem where
  | entry (place : Place) | header | key
  deriving DecidableEq, Repr

/-- A write: its item and the complete new content of that item (R130). -/
inductive StoreWrite where
  | entry (place : Place) (content : HistoryEntry)
  | header (content : Header)
  | key (content : Key)
  deriving DecidableEq, Repr

/-- A queued write and its class: CARRY when `carry`, else ORDINARY (R130). -/
structure QueuedWrite where
  write : StoreWrite
  carry : Bool
  deriving DecidableEq, Repr

/-- The write in progress: the stamp of the start of the 5 ms that run, and whether it is the repeat (R131, R132). -/
structure WriteInProgress where
  write : StoreWrite
  since : Tick
  repeating : Bool
  deriving DecidableEq, Repr

/-- What the spare copy of an item holds (R128): nothing while it has never been written, a content, or what a write
that has not committed left in it, which no rule gives (R132, R133; log entry 15). -/
inductive Spare (α : Type) where
  | blank
  | holds (content : α)
  | unsettled
  deriving DecidableEq, Repr

/-- The History Store: the stored content of the items and the content of their spare copies (non-volatile; a stored
content of none is blank), the Store Queue in the order in which the writes were queued, the write in progress, and the
working seen number. -/
structure Store where
  entries : Vector (Option HistoryEntry) 32
  header : Option Header
  key : Option Key
  spareEntries : Vector (Spare HistoryEntry) 32
  spareHeader : Spare Header
  spareKey : Spare Key
  queue : List QueuedWrite
  writing : Option WriteInProgress
  workingSeen : Nat
  deriving DecidableEq, Repr

/-! ## The links and the event lists (chapters 9 and 10) -/

/-- The event kinds that carry a slot (R145). -/
inductive SlotEvent where
  | seated | removed | admitted | rejected | mute | level | suspect | gate | leak | orphan | done
  deriving DecidableEq, Repr

/-- The device-wide event kinds (R145). -/
inductive DeviceEvent where
  | supply | bus | history | woken | reset
  deriving DecidableEq, Repr

/-- An event's kind and, for a per-slot kind, its slot: what entries coalesce by (R146). -/
inductive EventId where
  | slot (kind : SlotEvent) (slot : SlotNo)
  | device (kind : DeviceEvent)
  deriving DecidableEq, Repr

/-- The reasons of the device-wide kinds (R147). -/
inductive Reason where
  | supplyLow | supplyNormal
  | busSuspended | busResumed
  | historyKeysAbsent | historyKeysStored | historyLoss | historyWrite
  | wokenCommand | wokenTally | wokenPresence | wokenSupply
  | resetPowerOn | resetPin | resetCommand
  deriving DecidableEq, Repr

/-- An entry of an event list (R145). The reasons are the set that section 12.3 sends: the first reason of the kind
is bit 0. A per-slot kind has none. -/
structure EventEntry where
  id : EventId
  reasons : BitVec 4
  occurrences : Nat
  deriving DecidableEq, Repr

/-- The results of R159. -/
inductive Result where
  | ok | accepted | merged | late | notDraining | noCartridge | busy | locked | invalid | asleep | notPermitted
  | unknown | framing
  deriving DecidableEq, Repr

/-- A reply awaiting collection (R158). -/
structure Reply where
  result : Result
  echo : Byte
  payload : List Byte
  deriving DecidableEq, Repr

/-- A link with its event list: the reply awaiting collection, the bytes shifted out on MISO in the latest
transaction (R158), the event list (R146), and the mask, bit k set for the kind with code k + 1 (R148). -/
structure Port where
  reply : Reply
  shifted : List Byte
  events : List EventEntry
  mask : BitVec 16
  deriving DecidableEq, Repr

/-! ## The device -/

/-- The power states (R167). -/
inductive Power where
  | run | windingDown | standby
  deriving DecidableEq, Repr

/-- The supply states (R170). -/
inductive Supply where
  | normal | low
  deriving DecidableEq, Repr

/-- The whole device. Three fields are the model's own: `boundaryDue` and `Slot.valveDue` (log entry 5) say that a
tick advance has brought a lamp frame boundary or a valve millisecond that its command has still to take, and
`datLow` is the level of SB_DAT outside exchanges (log entry 7). -/
structure Device where
  /-- The tick count (R1). -/
  tick : Tick
  /-- The lamp frame phase (R2). -/
  framePhase : Nat
  boundaryDue : Bool
  /-- The audit period in minutes and the elapsed time in milliseconds (R69). -/
  auditPeriod : Nat
  auditElapsed : Nat
  slots : Vector Slot 8
  /-- The wake-enable mask (R15). -/
  wakeMask : BitVec 8
  /-- The Work List (R38), oldest entry first. -/
  work : List Entry
  /-- The sequence in flight (R44). -/
  seq : Option Sequence
  /-- Whether SB_CLK has rested low without interruption for at least 1 ms (R18, R30). -/
  clockRested : Bool
  /-- Attention sensing: its state, the spurious count, the line and the measurement (R32, R35). -/
  sensing : Sensing
  spurious : Nat
  datLow : Bool
  measure : Measure
  /-- The Proof Unit (R58 to R63). -/
  keyStore : KeyStore
  nonceCount : Word
  bootNumber : Word
  keysAbsent : Bool
  store : Store
  engine : Port
  system : Port
  power : Power
  supply : Supply
  /-- Whether a RESET PART carry is in progress (R172). -/
  resetCarry : Bool
  /-- Whether debits settled held at the end of the latest command of WINDING DOWN (R167, R168). -/
  debitsSettled : Bool
  deriving DecidableEq, Repr

/-- The machine: the device, and the commands that wait, first in, first out. -/
structure State where
  dev : Device
  pending : List Instr
  deriving DecidableEq, Repr

/-! ## The values after a reset -/

def Flags.empty : Flags := ⟨false, false, false, false, false, false, false, false⟩

def Causes.empty : Causes := ⟨false, false, false, false, false, false, false⟩

def Wanted.empty : Wanted := ⟨false, false⟩

def Marks.empty : Marks := ⟨false, false, false⟩

/-- The metering fields of a VACANT slot (R73, R94). -/
def Meter.vacant : Meter :=
  { residue := 0, pending := 0, inFlight := none, confirmed := 0, posted := 0, carriedIn := 0, metered := 0
    capacity := none, uncertain := none, refreshBase := none, saturated := false }

/-- The metering configuration after every reset (section 5.1). -/
def MeterConfig.default : MeterConfig :=
  { fine := 32, normal := 96, coarse := 192, trim := 0, mode := .off, polarity := .risingOrHigh
    stroke := 0, flow := 0, debitStep := 500 }

/-- The Gate Controller's items after every reset (R110). -/
def GateRecord.afterReset : GateRecord :=
  { low := .auto, critical := .auto, reserve := 0, grace := 2000
    onRejected := .close, onSuspicion := .warn, onDryness := .closeAtSpent
    force := false, accepted := false, level := .normal
    causes := { Causes.empty with vacant := true }
    gate := .severed, graceTimer := none, forcedCloses := 0 }

/-- The Lamp Driver's items after every reset (R156). -/
def LampRecord.afterReset : LampRecord :=
  { shown := .dark, target := .dark, override := .auto, locate := none, held := false }

/-- A slot record after every reset (R3, R4, R73, R110, R156), with the levels its lines show at the end of the reset
and the cartridge at its bus contacts. -/
def Slot.afterReset (presenceLow serviceHigh : Bool) (cartridge : Option Cartridge) : Slot :=
  { presenceLow := presenceLow, admission := .vacant, insertion := 0, seatedAt := 0, removedAt := none
    debouncedLow := false, settleTimer := none, removalTimer := none, identity := none, held := none
    verdict := .none, proofCount := 0, lastProof := none, merged := false, flags := Flags.empty
    meter := Meter.vacant, orphanResidue := 0, orphanCount := 0, config := MeterConfig.default
    serviceHigh := serviceHigh, valveDue := 0, gate := GateRecord.afterReset, lamp := LampRecord.afterReset
    lastSequence := none, busErrors := 0, cartridge := cartridge }

/-- The empty reply of R158: result OK, the code of NOP (0) as echo, no payload. -/
def Reply.empty : Reply := ⟨.ok, 0, []⟩

/-- A link after a power-on reset (R151, R158): the event list holds RESET with reason POWER ON, which is the first
reason of its kind. -/
def Port.afterPowerOn : Port :=
  { reply := Reply.empty, shifted := [], events := [⟨.device .reset, 1, 1⟩], mask := 0 }

/-- The History Store after the first power-on of a device whose 34 items have never been written (R128, R129): the
new boot number is 1 and its header write is queued. -/
def Store.afterFirstPowerOn : Store :=
  { entries := Vector.replicate 32 none, header := none, key := none
    spareEntries := Vector.replicate 32 .blank, spareHeader := .blank, spareKey := .blank
    queue := [⟨.header ⟨1, 0⟩, false⟩], writing := none, workingSeen := 0 }

/-- The device after a power-on reset with blank non-volatile items, every presence line high, every service line low
and the supply above the rising threshold (log entry 1). -/
def Device.afterFirstPowerOn : Device :=
  { tick := 0, framePhase := 0, boundaryDue := false, auditPeriod := 60, auditElapsed := 0
    slots := Vector.replicate 8 (Slot.afterReset false false none)
    wakeMask := 0xFF, work := [], seq := none, clockRested := false
    sensing := .active, spurious := 0, datLow := false, measure := .stopped
    keyStore := .blank, nonceCount := 0, bootNumber := 1, keysAbsent := false
    store := Store.afterFirstPowerOn
    engine := Port.afterPowerOn, system := Port.afterPowerOn
    power := .run, supply := .normal, resetCarry := false, debitsSettled := false }

/-- The machine right after reset, with no command waiting. -/
def State.reset : State := { dev := Device.afterFirstPowerOn, pending := [] }

end Sys2Proof.Machine
end

