-- ==== Sys2Proof/Machine/Flags.lean ====
section
/-! DEFINITION. What the specification computes from a record: sets, effective weights and thresholds, the remaining
ink, the level class, the cause set, the automatic lamp pattern, and the numbers the timers and limits use. -/

namespace Sys2Proof

/-! ## Sets of marks -/

def Marks.union (a b : Marks) : Marks :=
  ⟨a.exhausted || b.exhausted, a.suspect || b.suspect, a.sealMark || b.sealMark⟩

/-- Whether every mark of `b` is in `a`. -/
def Marks.holds (a b : Marks) : Bool :=
  (a.exhausted || !b.exhausted) && (a.suspect || !b.suspect) && (a.sealMark || !b.sealMark)

/-- The printer-written marks' value: 1 for EXHAUSTED and 2 for SUSPECT, summed (R28, R65). -/
def Marks.printerValue (m : Marks) : Nat := m.exhausted.toNat + 2 * m.suspect.toNat

end Sys2Proof

namespace Sys2Proof.Machine

open Sys2Proof

/-! ## Sets -/

def Flags.union (a b : Flags) : Flags :=
  ⟨a.rollback || b.rollback, a.sealFlag || b.sealFlag, a.reuse || b.reuse, a.swap || b.swap,
   a.mismatch || b.mismatch, a.marked || b.marked, a.recorded || b.recorded, a.duplicate || b.duplicate⟩

/-- The members of `a` that are not in `b`. -/
def Flags.minus (a b : Flags) : Flags :=
  ⟨a.rollback && !b.rollback, a.sealFlag && !b.sealFlag, a.reuse && !b.reuse, a.swap && !b.swap,
   a.mismatch && !b.mismatch, a.marked && !b.marked, a.recorded && !b.recorded, a.duplicate && !b.duplicate⟩

def Flags.any (a : Flags) : Bool :=
  a.rollback || a.sealFlag || a.reuse || a.swap || a.mismatch || a.marked || a.recorded || a.duplicate

/-- Whether a flag other than MARKED and RECORDED is in the set (R137, R139). -/
def Flags.anyWritten (a : Flags) : Bool :=
  a.rollback || a.sealFlag || a.reuse || a.swap || a.mismatch || a.duplicate

/-- Whether ROLLBACK or MISMATCH is in the set (R41, R42). -/
def Flags.stopsDebit (a : Flags) : Bool := a.rollback || a.mismatch

def Wanted.union (a b : Wanted) : Wanted := ⟨a.exhausted || b.exhausted, a.suspect || b.suspect⟩

def Wanted.toMarks (w : Wanted) : Marks := ⟨w.exhausted, w.suspect, false⟩

/-- The wanted marks that are not among the marks `m` (R44). -/
def Wanted.minus (w : Wanted) (m : Marks) : Wanted := ⟨w.exhausted && !m.exhausted, w.suspect && !m.suspect⟩

def Wanted.any (w : Wanted) : Bool := w.exhausted || w.suspect

def Origins.empty : Origins := ⟨false, false, false, false, false⟩
def Origins.ofInternal : Origins := { Origins.empty with internal := true }
def Origins.ofSystem : Origins := { Origins.empty with system := true }
def Origins.ofEngine : Origins := { Origins.empty with engine := true }
def Origins.ofAudit : Origins := { Origins.empty with audit := true }
def Origins.ofAttention : Origins := { Origins.empty with attention := true }

def Origins.union (a b : Origins) : Origins :=
  ⟨a.internal || b.internal, a.system || b.system, a.engine || b.engine, a.audit || b.audit,
   a.attention || b.attention⟩

def Origins.any (a : Origins) : Bool := a.internal || a.system || a.engine || a.audit || a.attention

def Causes.any (c : Causes) : Bool :=
  c.vacant || c.pending || c.operator || c.rejected || c.suspect || c.dry || c.unreachable

/-- Whether the set holds an immediate cause (R115). -/
def Causes.immediate (c : Causes) : Bool := c.vacant || c.pending || c.operator

/-- Whether the set holds a cause other than PENDING (R153). -/
def Causes.anyButPending (c : Causes) : Bool :=
  c.vacant || c.operator || c.rejected || c.suspect || c.dry || c.unreachable

/-! ## Times (R1) and limits -/

/-- The settle timer (section 1.3). -/
def settleMs : Nat := 200
/-- The removal timer (section 1.3). -/
def removalMs : Nat := 20
/-- The lamp frame (R2). -/
def frameMs : Nat := 1000
/-- The locate timer (R155). -/
def locateMs : Nat := 5000
/-- A store write or its repeat (R131, R132). -/
def storeWriteMs : Nat := 5
/-- The idle bus before a further attempt (R45). -/
def spacingMs : Nat := 2
/-- Milliseconds in a minute of the audit period (R69). -/
def msPerMinute : Nat := 60000
/-- The quanta in a microlitre and in a nanolitre (00_scope.md, section 5.1). -/
def quantaPerMicrolitre : Nat := 16000000
def quantaPerNanolitre : Nat := 16000
/-- The largest capacity and the largest threshold, in µL. -/
def maxCapacity : Nat := 4000000
/-- The attempts of a sequence (R45). -/
def maxAttempts : Nat := 3

/-- The reply window of each op, in milliseconds (R21). -/
def replyWindow : WorkKind → Nat
  | .identify => 5
  | .prove => 12
  | .debit => 30
  | .mark => 30
  | .poll => 5

/-- The sum of `a` and `b`, stopping at `limit`. -/
def satAdd (limit a b : Nat) : Nat := min limit (a + b)

/-- `x` limited to the range from `lo` to `hi`. -/
def clampNat (lo hi x : Nat) : Nat := max lo (min hi x)

/-! ## The Meter -/

/-- The effective weight of a nominal weight under a trim (R74). -/
def effectiveWeight (nominal : Nat) (trim : Int) : Nat :=
  clampNat 1 16383 (((nominal : Int) * (1024 + trim) + 512) / 1024).toNat

/-- R: the account capacity less confirmed used, in-flight and pending, while the account is open (R90). -/
def Meter.remaining (m : Meter) : Option Int :=
  m.capacity.map fun c => (c : Int) - m.confirmed - m.inFlight.getD 0 - m.pending

/-- The overdraw: the larger of −R and 0, stopping at 4,294,967,295; 0 while the account is closed (R90). -/
def Meter.overdraw (m : Meter) : Nat :=
  match m.remaining with
  | none => 0
  | some r => min max32 (-r).toNat

/-- An addition to pending, which stops at its limit and then sets the pending-saturated flag (R84). -/
def Meter.addPending (m : Meter) (n : Nat) : Meter :=
  { m with
    pending := satAdd max32 m.pending n
    saturated := m.saturated || decide (max32 < m.pending + n) }

/-- An addition to the metered amount, with the same limit (R84). -/
def Meter.addMetered (m : Meter) (n : Nat) : Meter :=
  { m with
    metered := satAdd max32 m.metered n
    saturated := m.saturated || decide (max32 < m.metered + n) }

/-- The posted amount increased by `n`; a sum beyond its range is a free value (log entry 2). -/
def postedPlus (posted n : Nat) : Nat :=
  if posted + n ≤ max32 then posted + n else (Config.freePosted (posted + n)).toNat

/-- The in-flight amount added back to pending, and absent after it (R101, R102, R104, R105). -/
def Meter.foldInFlight (m : Meter) : Meter :=
  { m.addPending (m.inFlight.getD 0) with inFlight := none }

/-! ## Thresholds, level and causes -/

/-- The value that a setting of CRITICAL gives for an account capacity (R111). -/
def GateRecord.effectiveCritical (g : GateRecord) (capacity : Nat) : Nat :=
  match g.critical with
  | .auto => capacity * 5 / 100
  | .absolute v => v

/-- The value that a setting of LOW gives, raised to the effective CRITICAL (R111). -/
def GateRecord.effectiveLow (g : GateRecord) (capacity : Nat) : Nat :=
  max (match g.low with | .auto => capacity * 15 / 100 | .absolute v => v) (g.effectiveCritical capacity)

/-- The class of a signed remaining ink `r` under the thresholds and the reserve (R113). -/
def levelOfRemaining (low critical reserve : Nat) (r : Int) : Level :=
  if (low : Int) < r then .normal
  else if (critical : Int) < r then .low
  else if 0 < r then .critical
  else if -(reserve : Int) < r then .dry
  else .spent

/-- The level class of a slot record; NORMAL while the account is closed (R113). -/
def levelOf (m : Meter) (g : GateRecord) : Level :=
  match m.capacity, m.remaining with
  | some c, some r => levelOfRemaining (g.effectiveLow c) (g.effectiveCritical c) g.reserve r
  | _, _ => .normal

/-- The order of severity, mildest first (R113). -/
def Level.severity : Level → Nat
  | .normal => 0
  | .low => 1
  | .critical => 2
  | .dry => 3
  | .spent => 4

/-- Whether a new class is one that brings a DEBIT request: CRITICAL, DRY or SPENT, and more severe than before (R95). -/
def debitLevel (before after : Level) : Bool :=
  decide (2 ≤ after.severity) && decide (before.severity < after.severity)

def Verdict.isFailed : Verdict → Bool
  | .failed _ => true
  | .none | .proven => false

/-- The seated admission states (R7). -/
def Admission.seated : Admission → Bool
  | .identifying | .proving | .admitted | .rejected | .mute => true
  | .vacant | .settling => false

/-- Whether the level class is a DRY cause under the dryness policy (R115). -/
def dryCause : DryPolicy → Level → Bool
  | .closeAtDry, l => decide (3 ≤ l.severity)
  | .closeAtSpent, l => decide (4 ≤ l.severity)
  | .never, _ => false

/-- The cause set of a slot record as it stands (R115). -/
def causesOf (s : Slot) : Causes :=
  { vacant := decide (s.admission = .vacant)
    pending := decide (s.admission = .settling) || decide (s.admission = .identifying) || decide (s.admission = .proving)
    operator := s.gate.force
    rejected := s.verdict.isFailed && decide (s.gate.onRejected = .close)
    suspect := !decide (s.admission = .vacant) && s.flags.any && decide (s.gate.onSuspicion = .close) && !s.gate.accepted
    dry := dryCause s.gate.onDryness s.gate.level
    unreachable := decide (s.admission = .mute) }

/-- Whether a gate's inhibit line is asserted (R121). -/
def Gate.closed : Gate → Bool
  | .shut | .severed => true
  | .opened | .draining => false

/-! ## Lamps -/

/-- The automatic pattern of a slot record: the first row of R153 that matches. -/
def autoPattern (s : Slot) : Pattern :=
  if s.admission = .vacant then .dark
  else if s.admission = .mute then .redFast
  else if s.flags.any || s.verdict.isFailed then .alternate
  else if (s.gate.gate.closed && s.gate.causes.anyButPending) || decide (3 ≤ s.gate.level.severity) then .redSteady
  else if s.admission = .settling ∨ s.admission = .identifying ∨ s.admission = .proving then .greenFlicker
  else if s.gate.level = .critical then .amberBlink
  else if s.gate.level = .low then .amberSteady
  else .greenSteady

/-- The rank of an automatic pattern (R153). AMBER FAST is no automatic pattern and is never compared (R155). -/
def Pattern.rank : Pattern → Nat
  | .dark => 1
  | .redFast => 2
  | .alternate => 3
  | .redSteady => 4
  | .greenFlicker => 5
  | .amberBlink => 6
  | .amberSteady => 7
  | .greenSteady => 8
  | .amberFast => 9

/-- The lamp takes a changed target while its override is AUTO (R154). -/
def LampRecord.take (l : LampRecord) (target : Pattern) : LampRecord :=
  if target = l.shown then { l with target := target, held := false }
  else if target = .dark ∨ l.shown = .dark ∨ target.rank < l.shown.rank then
    { l with target := target, shown := target, held := false }
  else { l with target := target, held := true }

/-- What a lamp shows: its green line and its red line; both on shows amber (section 9.3). -/
structure LampLines where
  green : Bool
  red : Bool
  deriving DecidableEq, Repr

/-- The lines of a lamp with a pattern at a value of the tick count (R152). -/
def Pattern.lines (p : Pattern) (tick : Tick) : LampLines :=
  let off : LampLines := ⟨false, false⟩
  let green : LampLines := ⟨true, false⟩
  let amber : LampLines := ⟨true, true⟩
  let red : LampLines := ⟨false, true⟩
  let first (period : Nat) : Bool := decide (2 * (tick.toNat % period) < period)
  match p with
  | .dark => off
  | .greenSteady => green
  | .amberSteady => amber
  | .redSteady => red
  | .greenFlicker => if first 160 then green else off
  | .redFast => if first 160 then red else off
  | .amberFast => if first 160 then amber else off
  | .amberBlink => if first 640 then amber else off
  | .alternate => if first 640 then red else green

/-! ## Events -/

/-- The device-wide kind a reason belongs to (R147). -/
def Reason.kind : Reason → DeviceEvent
  | .supplyLow | .supplyNormal => .supply
  | .busSuspended | .busResumed => .bus
  | .historyKeysAbsent | .historyKeysStored | .historyLoss | .historyWrite => .history
  | .wokenCommand | .wokenTally | .wokenPresence | .wokenSupply => .woken
  | .resetPowerOn | .resetPin | .resetCommand => .reset

/-- The bit of a reason: the first of its kind in R147 is bit 0 (section 12.3). -/
def Reason.bit : Reason → BitVec 4
  | .supplyLow | .busSuspended | .historyKeysAbsent | .wokenCommand | .resetPowerOn => 1
  | .supplyNormal | .busResumed | .historyKeysStored | .wokenTally | .resetPin => 2
  | .historyLoss | .wokenPresence | .resetCommand => 4
  | .historyWrite | .wokenSupply => 8

/-- Whether events of the kind go to the Engine list as well; every kind goes to the System list (R145). -/
def EventId.toEngine : EventId → Bool
  | .slot .removed _ | .slot .level _ | .slot .gate _ | .slot .leak _ | .slot .orphan _ => true
  | .slot .seated _ | .slot .admitted _ | .slot .rejected _ | .slot .mute _ | .slot .suspect _ | .slot .done _ => false
  | .device .supply | .device .woken | .device .reset => true
  | .device .bus | .device .history => false

/-- The code of an event's kind, 1 to 16, in the order of the routing table of R145 (section 12.3). -/
def EventId.code : EventId → Nat
  | .slot .seated _ => 1
  | .slot .removed _ => 2
  | .slot .admitted _ => 3
  | .slot .rejected _ => 4
  | .slot .mute _ => 5
  | .slot .level _ => 6
  | .slot .suspect _ => 7
  | .slot .gate _ => 8
  | .slot .leak _ => 9
  | .slot .orphan _ => 10
  | .slot .done _ => 11
  | .device .supply => 12
  | .device .bus => 13
  | .device .history => 14
  | .device .woken => 15
  | .device .reset => 16

end Sys2Proof.Machine
end

