-- ==== Sys2Proof/Machine/Operands.lean ====
section
/-! DEFINITION. The payloads of the link commands: their checks and clamps (R162, R163, R173, section 12.1). Each reader
answers the operands of a payload that passes the command's checks, and `none` where the command is refused INVALID. -/

namespace Sys2Proof.Machine

open Sys2Proof

/-- A payload of length 0. -/
def readNone : List Byte → Option Unit
  | [] => some ()
  | _ :: _ => none

/-- One slot number. -/
def readSlotNo : List Byte → Option SlotNo
  | [b] => slotOfByte b
  | [] | _ :: _ :: _ => none

/-- One byte: a slot set. -/
def readByte : List Byte → Option Byte
  | [b] => some b
  | [] | _ :: _ :: _ => none

/-- The mask that event kind codes name: bit k for code k + 1; a code named twice is taken once (R148, R173). -/
def maskOfCodes : List Byte → Option (BitVec 16)
  | [] => some 0
  | b :: bs =>
    match maskOfCodes bs with
    | none => none
    | some m => if 1 ≤ b.toNat ∧ b.toNat ≤ 16 then some (m ||| (1 <<< (b.toNat - 1))) else none

/-- SET MASK: 0 to 16 event kind codes (R162). -/
def readMask (p : List Byte) : Option (BitVec 16) := if p.length ≤ 16 then maskOfCodes p else none

/-- A tally record: its slot byte and its three drop counts (R76). -/
structure TallyRecord where
  slot : Byte
  fine : Nat
  normal : Nat
  coarse : Nat
  deriving DecidableEq, Repr

/-- The whole records of a payload; `none` where bytes are left over. -/
def tallyRecords : List Byte → Option (List TallyRecord)
  | [] => some []
  | s :: f2 :: f1 :: f0 :: n2 :: n1 :: n0 :: c2 :: c1 :: c0 :: rest =>
    match tallyRecords rest with
    | none => none
    | some rs => some (⟨s, beNat [f2, f1, f0], beNat [n2, n1, n0], beNat [c2, c1, c0]⟩ :: rs)
  | _ => none

/-- JET TALLY: 1 to 8 whole records (R162). -/
def readTally (p : List Byte) : Option (List TallyRecord) :=
  match tallyRecords p with
  | none => none
  | some rs => if 1 ≤ rs.length ∧ rs.length ≤ 8 then some rs else none

/-- GATE ACK: 1 to 8 slot numbers (R162); a number above 7 is judged at its position (R123). -/
def readAcks (p : List Byte) : Option (List Byte) := if 1 ≤ p.length ∧ p.length ≤ 8 then some p else none

/-- The operands of READ HISTORY. -/
structure HistoryRange where
  first : Place
  count : Nat
  deriving DecidableEq, Repr

/-- READ HISTORY: a first place of 0 to 31 and a count of 1 or 2 (R144). -/
def readRange : List Byte → Option HistoryRange
  | [f, c] =>
    if h : f.toNat < 32 then (if c.toNat = 1 ∨ c.toNat = 2 then some ⟨⟨f.toNat, h⟩, c.toNat⟩ else none) else none
  | [] | [_] | _ :: _ :: _ :: _ => none

/-- The service mode of a byte (section 12.3). -/
def modeOfByte (b : Byte) : Option ServiceMode :=
  if b = 0 then some .off else if b = 1 then some .stroke else if b = 2 then some .valve else none

/-- The service polarity of a byte (section 12.3). -/
def polarityOfByte (b : Byte) : Option Polarity :=
  if b = 0 then some .risingOrHigh else if b = 1 then some .fallingOrLow else none

/-- The operands of SET METERING, clamped. -/
structure MeteringArgs where
  slot : SlotNo
  config : MeterConfig
  deriving DecidableEq, Repr

/-- SET METERING: 19 bytes; each value limited to its range (R75). -/
def readMetering : List Byte → Option MeteringArgs
  | [s, f1, f0, n1, n0, c1, c0, t1, t0, mode, pol, v1, v0, w1, w0, d3, d2, d1, d0] =>
    match slotOfByte s, modeOfByte mode, polarityOfByte pol with
    | some i, some m, some p =>
      some ⟨i,
        { fine := clampNat 1 16383 (beNat [f1, f0])
          normal := clampNat 1 16383 (beNat [n1, n0])
          coarse := clampNat 1 16383 (beNat [c1, c0])
          trim := max (-128) (min 127 (beInt16 t1 t0))
          mode := m, polarity := p
          stroke := beNat [v1, v0]
          flow := min 4095 (beNat [w1, w0])
          debitStep := clampNat 10 100000 (beNat [d3, d2, d1, d0]) }⟩
    | _, _, _ => none
  | _ => none

/-- A threshold setting of its mode byte and value: 0 absolute, lowered to 4,000,000; 1 AUTO (R112, section 12.1). -/
def thresholdOf (mode : Byte) (value : Nat) : Option Threshold :=
  if mode = 0 then some (.absolute (min maxCapacity value)) else if mode = 1 then some .auto else none

/-- The operands of SET THRESHOLDS, clamped. -/
structure ThresholdArgs where
  slot : SlotNo
  low : Threshold
  critical : Threshold
  reserve : Nat
  deriving DecidableEq, Repr

/-- Whether both settings are absolute with LOW below CRITICAL (R112). -/
def thresholdsCrossed : Threshold → Threshold → Bool
  | .absolute l, .absolute c => decide (l < c)
  | .auto, _ | .absolute _, .auto => false

/-- SET THRESHOLDS: 15 bytes (R112). -/
def readThresholds : List Byte → Option ThresholdArgs
  | [s, lm, l3, l2, l1, l0, cm, c3, c2, c1, c0, r3, r2, r1, r0] =>
    match slotOfByte s, thresholdOf lm (beNat [l3, l2, l1, l0]), thresholdOf cm (beNat [c3, c2, c1, c0]) with
    | some i, some low, some critical =>
      if thresholdsCrossed low critical then none
      else some ⟨i, low, critical, min 65535 (beNat [r3, r2, r1, r0])⟩
    | _, _, _ => none
  | _ => none

/-- A close policy of a byte (section 12.3). -/
def closePolicyOfByte (b : Byte) : Option ClosePolicy :=
  if b = 0 then some .close else if b = 1 then some .warn else none

/-- A dryness policy of a byte (section 12.3). -/
def dryPolicyOfByte (b : Byte) : Option DryPolicy :=
  if b = 0 then some .closeAtDry else if b = 1 then some .closeAtSpent else if b = 2 then some .never else none

/-- The operands of SET POLICY. -/
structure PolicyArgs where
  slot : SlotNo
  onRejected : ClosePolicy
  onSuspicion : ClosePolicy
  onDryness : DryPolicy
  deriving DecidableEq, Repr

/-- SET POLICY: a slot and three policies (R116). -/
def readPolicy : List Byte → Option PolicyArgs
  | [s, a, b, c] =>
    match slotOfByte s, closePolicyOfByte a, closePolicyOfByte b, dryPolicyOfByte c with
    | some i, some r, some x, some y => some ⟨i, r, x, y⟩
    | _, _, _, _ => none
  | _ => none

/-- The operands of SET GRACE, clamped. -/
structure GraceArgs where
  slot : SlotNo
  grace : Nat
  deriving DecidableEq, Repr

/-- SET GRACE: a slot and a grace, lowered to 60,000 ms (R119). -/
def readGrace : List Byte → Option GraceArgs
  | [s, hi, lo] =>
    match slotOfByte s with
    | some i => some ⟨i, min 60000 (beNat [hi, lo])⟩
    | none => none
  | _ => none

/-- The operands of FORCE GATE. -/
structure ForceArgs where
  slot : SlotNo
  close : Bool
  deriving DecidableEq, Repr

/-- FORCE GATE: a slot and CLOSE (1) or RELEASE (2) (R124, section 12.3). -/
def readForce : List Byte → Option ForceArgs
  | [s, a] =>
    match slotOfByte s with
    | some i => if a = 1 then some ⟨i, true⟩ else if a = 2 then some ⟨i, false⟩ else none
    | none => none
  | _ => none

/-- A LAMP setting (R155). -/
inductive LampSetting where
  | auto | locate | pattern (p : Pattern)
  deriving DecidableEq, Repr

/-- The setting of a byte: the nine patterns, AUTO (0x10) and LOCATE (0x11) (section 12.3). -/
def lampSettingOfByte (b : Byte) : Option LampSetting :=
  if b = 0 then some (.pattern .dark)
  else if b = 1 then some (.pattern .greenSteady)
  else if b = 2 then some (.pattern .amberSteady)
  else if b = 3 then some (.pattern .redSteady)
  else if b = 4 then some (.pattern .greenFlicker)
  else if b = 5 then some (.pattern .redFast)
  else if b = 6 then some (.pattern .amberFast)
  else if b = 7 then some (.pattern .amberBlink)
  else if b = 8 then some (.pattern .alternate)
  else if b = 0x10 then some .auto
  else if b = 0x11 then some .locate
  else none

/-- The operands of LAMP. -/
structure LampArgs where
  slot : SlotNo
  setting : LampSetting
  deriving DecidableEq, Repr

/-- LAMP: a slot and a setting (R155). -/
def readLamp : List Byte → Option LampArgs
  | [s, b] =>
    match slotOfByte s, lampSettingOfByte b with
    | some i, some x => some ⟨i, x⟩
    | _, _ => none
  | _ => none

/-- SET AUDIT: a period in minutes, lowered to 240 (R71). -/
def readPeriod : List Byte → Option Nat
  | [b] => some (min 240 b.toNat)
  | [] | _ :: _ :: _ => none

/-- PROVISION KEYS: exactly 16 bytes, the words K0 to K3 (R58, R59). -/
def readKey (p : List Byte) : Option Key :=
  if p.length = 16 then
    let word (n : Nat) : Word := BitVec.ofNat 32 (beNat ((p.drop n).take 4))
    some ⟨word 0, word 4, word 8, word 12⟩
  else none

end Sys2Proof.Machine
end

