-- ==== Sys2Proof/Machine/Digest.lean ====
section
/-! DEFINITION. The keyed digest (R56, R57) and what the device computes with it (R62, R64, R66). -/

namespace Sys2Proof.Machine

open Sys2Proof

/-- The two working words of the digest engine. -/
structure DigestState where
  x : Word
  y : Word
  deriving DecidableEq, Repr

/-- The round numbered `r` (R57). -/
def digestRound (k : Key) (r : Nat) (w : DigestState) : DigestState :=
  let x := (w.x + w.y + k.k2).rotateLeft 9
  let y := (w.y ^^^ x).rotateLeft 13 + k.k3 + BitVec.ofNat 32 r
  ⟨x, y⟩

/-- The `n` rounds numbered from `r` on. -/
def digestRounds (k : Key) : Nat → Nat → DigestState → DigestState
  | 0, _, w => w
  | n + 1, r, w => digestRounds k n (r + 1) (digestRound k r w)

/-- The message words absorbed in order, four rounds each, then the eight finishing rounds; rounds are numbered from
`r` on without restart (R56, R57). -/
def digestAbsorb (k : Key) : List Word → Nat → DigestState → DigestState
  | [], r, w => digestRounds k 8 r w
  | m :: ms, r, w => digestAbsorb k ms (r + 4) (digestRounds k 4 r ⟨w.x, w.y ^^^ m⟩)

/-- The digest under a key of a message (R56): its high word is `x`, its low word `y`. -/
def digest (k : Key) (message : List Word) : DigestState :=
  digestAbsorb k message 1 ⟨k.k0, k.k1 ^^^ BitVec.ofNat 32 message.length⟩

/-- The high and the low word of a serial (R57). -/
def serialWords (serial : BitVec 64) : List Word := [serial.extractLsb' 32 32, serial.extractLsb' 0 32]

/-- The word g: the ink code × 65,536 + the generation (R57). -/
def inkWord (inkCode : BitVec 16) (generation : BitVec 4) : Word :=
  BitVec.ofNat 32 (inkCode.toNat * 65536 + generation.toNat)

/-- The cartridge key of a serial, ink code and generation under the master key (R62). -/
def cartridgeKey (km : Key) (serial : BitVec 64) (inkCode : BitVec 16) (generation : BitVec 4) : Key :=
  let ab := digest km (serialWords serial ++ [inkWord inkCode generation, 1])
  let cd := digest km (serialWords serial ++ [inkWord inkCode generation, 2])
  ⟨ab.x, ab.y, cd.x, cd.y⟩

/-- The nonce of a boot number, nonce count, slot and insertion number under the master key (R64). -/
def makeNonce (km : Key) (boot count : Word) (slot : SlotNo) (insertion : BitVec 8) : DigestState :=
  digest km [boot, count, BitVec.ofNat 32 (slot.val * 256 + insertion.toNat), 3]

/-- The response under a cartridge key to a nonce, over a used value, a capacity, the printer marks' value and the
ink code (R28, R66). -/
def proofResponse (kc : Key) (nonceHigh nonceLow : Word) (used capacity printerMarks : Nat) (inkCode : BitVec 16) :
    DigestState :=
  digest kc [nonceHigh, nonceLow, BitVec.ofNat 32 used, BitVec.ofNat 32 capacity,
    BitVec.ofNat 32 (printerMarks * 65536 + inkCode.toNat)]

end Sys2Proof.Machine
end

