-- ==== Sys2Proof/Machine/Packets.lean ====
section
/-! DEFINITION. The packets of the supply bus (section 12.4), CRC-8 (R26), the cartridge as bus partner (R27 to R31)
and the reading of its replies (R22, R174). -/

namespace Sys2Proof

/-- A set of marks as a byte (section 12.3). -/
def Marks.toByte (m : Marks) : Byte := BitVec.ofNat 8 (Machine.byteOfBits [m.exhausted, m.suspect, m.sealMark])

/-- The marks that a byte names; bits 3 to 7 are ignored (R174). -/
def Marks.ofByte (b : Byte) : Marks := ⟨b.getLsbD 0, b.getLsbD 1, b.getLsbD 2⟩

end Sys2Proof

namespace Sys2Proof.Machine

open Sys2Proof

/-- One bit of the CRC-8 register: shifted left, with the polynomial 0x2F where a set bit leaves (R26). -/
def crcShift (reg : Byte) : Byte := if reg.msb then (reg <<< 1) ^^^ 0x2F else reg <<< 1

/-- The register after one byte, most significant bit first. -/
def crcByte (reg b : Byte) : Byte :=
  let r := reg ^^^ b
  crcShift (crcShift (crcShift (crcShift (crcShift (crcShift (crcShift (crcShift r)))))))

/-- The CRC-8 of bytes: initial register 0xFF, no reflection, no final inversion (R26). -/
def crc8 (bytes : List Byte) : Byte := bytes.foldl crcByte 0xFF

/-- A packet: its bytes and their CRC-8. -/
def withCrc (bytes : List Byte) : List Byte := bytes ++ [crc8 bytes]

/-- The op byte of each kind of exchange (section 12.4). -/
def opByte : WorkKind → Byte
  | .identify => 0x51
  | .prove => 0x52
  | .debit => 0x53
  | .mark => 0x54
  | .poll => 0x55

/-- The length of each op's reply, status and CRC-8 included (section 12.4). -/
def replyLength : WorkKind → Nat
  | .identify => 22
  | .prove => 10
  | .debit => 6
  | .mark => 3
  | .poll => 4

def statusOk : Byte := 0xA0
def statusApplied : Byte := 0xA1
def statusStale : Byte := 0xA2
def statusRefused : Byte := 0xA3

/-- The request packet of an exchange: op byte, parameters, CRC-8 (R20). -/
def requestPacket (kind : WorkKind) (parameters : List Byte) : List Byte := withCrc (opByte kind :: parameters)

/-- The scan request: the SCAN op byte and its CRC-8 (R33). -/
def scanPacket : List Byte := withCrc [0x5A]

/-! ## The cartridge -/

/-- A cartridge that gains power: attention pending and signalled clear, the attention cause NONE (R27). -/
def Cartridge.powered (m : CartridgeMemory) : Cartridge := ⟨m, false, false, .none⟩

/-- R30: the fill-port seal breaks. The seal sense does not return to INTACT. -/
def Cartridge.breakSeal (c : Cartridge) : Cartridge :=
  if c.memory.sealBroken then c
  else
    { memory := { c.memory with sealBroken := true, marks := { c.memory.marks with sealMark := true } }
      attentionPending := true, attentionSignalled := false, attentionCause := .sealCause }

/-- Whether a cartridge pulls SB_DAT low for attention, given that its select is released and whether SB_CLK has rested
low without interruption for 1 ms (R30). -/
def Cartridge.pulls (c : Cartridge) (clockRested : Bool) : Bool :=
  c.attentionPending && !c.attentionSignalled && clockRested

/-- A reply packet: status, data, CRC-8 (R21). -/
def replyPacket (status : Byte) (data : List Byte) : List Byte := withCrc (status :: data)

/-- R28: the reply to IDENTIFY. -/
def Cartridge.identifyReply (c : Cartridge) : List Byte :=
  replyPacket statusOk (beBytes 8 c.memory.serial.toNat ++ beBytes 2 c.memory.inkCode.toNat ++
    beBytes 1 c.memory.generation.toNat ++ beBytes 4 c.memory.capacity.toNat ++ beBytes 4 c.memory.used.toNat ++
    [c.memory.marks.toByte])

/-- R28: the reply to PROVE with a nonce. -/
def Cartridge.proveReply (c : Cartridge) (nonceHigh nonceLow : Word) : List Byte :=
  let r := proofResponse c.memory.key nonceHigh nonceLow c.memory.used.toNat c.memory.capacity.toNat
    c.memory.marks.printerValue c.memory.inkCode
  replyPacket statusOk (beBytes 4 r.x.toNat ++ beBytes 4 r.y.toNat)

/-- R29: DEBIT compares the used with the expected used and adds the amount: the cartridge's used after, and its
status. -/
def debitEffect (used expected amount : Nat) : Nat × Byte :=
  if used ≠ expected then (used, statusStale)
  else if max32 < used + amount then (used, statusRefused)
  else (used + amount, statusApplied)

/-- R29: the cartridge carries out a DEBIT. -/
def Cartridge.debit (c : Cartridge) (expected amount : Nat) : Cartridge × List Byte :=
  let (used, status) := debitEffect c.memory.used.toNat expected amount
  ({ c with memory := { c.memory with used := BitVec.ofNat 32 used } }, replyPacket status (beBytes 4 used))

/-- R29: the cartridge carries out a MARK; SEAL in the request is ignored. -/
def Cartridge.mark (c : Cartridge) (set : Marks) : Cartridge × List Byte :=
  let marks := c.memory.marks.union { set with sealMark := false }
  ({ c with memory := { c.memory with marks := marks } }, replyPacket statusOk [marks.toByte])

/-- R31: the reply to POLL. -/
def Cartridge.pollReply (c : Cartridge) : List Byte :=
  replyPacket statusOk [c.memory.marks.toByte, if c.attentionCause = .sealCause then 1 else 0]

/-- R27 to R29, R31: what a cartridge makes of a request packet that it has read. A bad CRC-8, an unknown op and a
length that does not match the op are ignored; a request received whole is carried out, its reply is prepared, and
attention signalled is set. -/
def Cartridge.receive (c : Cartridge) (packet : List Byte) : Option (Cartridge × List Byte) :=
  let heard : Cartridge := { c with attentionSignalled := true }
  match packet with
  | [] => none
  | op :: rest =>
    let parameters := rest.dropLast
    let n := rest.length
    if crc8 packet ≠ 0 then none
    else if op = opByte .identify ∧ n = 1 then some (heard, c.identifyReply)
    else if op = opByte .prove ∧ n = 9 then
      some (heard, c.proveReply (BitVec.ofNat 32 (beNat (parameters.take 4))) (BitVec.ofNat 32 (beNat (parameters.drop 4))))
    else if op = opByte .debit ∧ n = 9 then
      some (heard.debit (beNat (parameters.take 4)) (beNat (parameters.drop 4)))
    else if op = opByte .mark ∧ n = 2 then some (heard.mark (Marks.ofByte (parameters.headD 0)))
    else if op = opByte .poll ∧ n = 1 then some (heard, c.pollReply)
    else none

/-- R27, R33: a cartridge receives the scan request whole. -/
def Cartridge.hearScan (c : Cartridge) : Cartridge := { c with attentionSignalled := true }

/-- R31: the POLL reply has been sent to its last bit. -/
def Cartridge.pollSent (c : Cartridge) : Cartridge := { c with attentionPending := false, attentionCause := .none }

/-! ## The reading of a reply -/

/-- What a reply hands on (R23). -/
inductive ReplyContent where
  | identify (identity : Identity)
  | prove (high low : Word)
  | debit (status : Byte) (usedAfter : Nat)
  | mark (marks : Marks)
  | poll (marks : Marks)
  deriving DecidableEq, Repr

/-- The status byte is one defined for the op (R22). -/
def statusDefined (kind : WorkKind) (status : Byte) : Bool :=
  match kind with
  | .identify | .prove | .mark | .poll => decide (status = statusOk)
  | .debit => decide (status = statusApplied) || decide (status = statusStale) || decide (status = statusRefused)

/-- The content of a reply's data, where it satisfies the content condition of its op (R22, R174). `known` are the
slot's known marks and `sent` the marks named in a MARK request. -/
def replyData (kind : WorkKind) (status : Byte) (data : List Byte) (known : Marks) (sent : Wanted) :
    Option ReplyContent :=
  match kind with
  | .identify =>
    some (.identify
      { serial := BitVec.ofNat 64 (beNat (data.take 8))
        inkCode := BitVec.ofNat 16 (beNat ((data.drop 8).take 2))
        generation := BitVec.ofNat 4 (data.getD 10 0).toNat
        capacity := beNat ((data.drop 11).take 4)
        used := beNat ((data.drop 15).take 4)
        marks := Marks.ofByte (data.getD 19 0) })
  | .prove => some (.prove (BitVec.ofNat 32 (beNat (data.take 4))) (BitVec.ofNat 32 (beNat ((data.drop 4).take 4))))
  | .debit => some (.debit status (beNat (data.take 4)))
  | .mark =>
    let marks := Marks.ofByte (data.getD 0 0)
    if marks.holds sent.toMarks && marks.holds known then some (.mark marks) else none
  | .poll =>
    let marks := Marks.ofByte (data.getD 0 0)
    if marks.holds known && (!decide (data.getD 1 0 = 1) || marks.sealMark) then some (.poll marks) else none

/-- The check of a reply read whole: its CRC-8, its status, its content, in this order (R22). `none` is CRC_BAD. -/
def checkReply (kind : WorkKind) (bytes : List Byte) (known : Marks) (sent : Wanted) : Option ReplyContent :=
  match bytes with
  | [] => none
  | status :: rest =>
    if crc8 bytes ≠ 0 then none
    else if statusDefined kind status then replyData kind status rest.dropLast known sent
    else none

end Sys2Proof.Machine
end

