-- ==== Sys2Proof/Machine/Ops.lean ====
section
/-! DEFINITION. The shared operations over the device: slot records, events, lamps, gates, the Work List and the
Store Queue. A function takes the device and answers the device after it. -/

namespace Sys2Proof.Machine

open Sys2Proof

/-! ## Slot records -/

/-- The record of a slot. -/
def Device.slot (d : Device) (i : SlotNo) : Slot := d.slots.get i

/-- The device with the record of one slot changed. -/
def Device.updSlot (d : Device) (i : SlotNo) (f : Slot → Slot) : Device :=
  { d with slots := d.slots.set i.val (f (d.slot i)) i.isLt }

/-- The device with the metering fields of one slot changed. -/
def Device.updMeter (d : Device) (i : SlotNo) (f : Meter → Meter) : Device :=
  d.updSlot i fun s => { s with meter := f s.meter }

/-- The device with the Gate Controller's items of one slot changed. -/
def Device.updGate (d : Device) (i : SlotNo) (f : GateRecord → GateRecord) : Device :=
  d.updSlot i fun s => { s with gate := f s.gate }

/-- The device with the Lamp Driver's items of one slot changed. -/
def Device.updLamp (d : Device) (i : SlotNo) (f : LampRecord → LampRecord) : Device :=
  d.updSlot i fun s => { s with lamp := f s.lamp }

/-- Whether a slot is in the wake-enable mask (R15). -/
def Device.wakeEnabled (d : Device) (i : SlotNo) : Bool := d.wakeMask.getLsbD i.val

/-- Whether a slot is frozen: outside the wake-enable mask in STANDBY (R15). -/
def Device.frozen (d : Device) (i : SlotNo) : Bool := decide (d.power = .standby) && !d.wakeEnabled i

/-- A timer of `length` milliseconds started at `start` has expired at `now`; a stopped timer never has (R1). -/
def timerDue (now : Tick) (start : Option Tick) (length : Nat) : Bool :=
  match start with
  | none => false
  | some t => decide (length ≤ elapsed now t)

/-! ## Events (R145, R146) -/

/-- One delivery to a list: coalesced into the entry of the same kind and slot, or placed at the end (R146). -/
def deliver (id : EventId) (reasons : BitVec 4) : List EventEntry → List EventEntry
  | [] => [⟨id, reasons, 1⟩]
  | e :: es =>
    if e.id = id then { e with reasons := e.reasons ||| reasons, occurrences := satAdd 255 e.occurrences 1 } :: es
    else e :: deliver id reasons es

def Port.deliver (p : Port) (id : EventId) (reasons : BitVec 4) : Port :=
  { p with events := Machine.deliver id reasons p.events }

/-- An event is raised: delivered to each list its kind is routed to (R145). -/
def Device.raise (d : Device) (id : EventId) (reasons : BitVec 4) : Device :=
  { d with
    system := d.system.deliver id reasons
    engine := if id.toEngine then d.engine.deliver id reasons else d.engine }

/-- A per-slot event is raised. -/
def Device.raiseSlot (d : Device) (kind : SlotEvent) (i : SlotNo) : Device := d.raise (.slot kind i) 0

/-- A device-wide event is raised with its reason (R147). -/
def Device.raiseReason (d : Device) (r : Reason) : Device := d.raise (.device r.kind) r.bit

/-- DONE is raised where the origins hold SYSTEM (R52). -/
def Device.raiseDone (d : Device) (origins : Origins) (i : SlotNo) : Device :=
  if origins.system then d.raiseSlot .done i else d

/-- Whether an entry's kind is in a mask (R148). -/
def maskedBy (mask : BitVec 16) (e : EventEntry) : Bool := mask.getLsbD (e.id.code - 1)

/-- A link's attention line: asserted exactly while its list holds an unmasked entry (R150). -/
def Port.attention (p : Port) : Bool := p.events.any fun e => !maskedBy p.mask e

/-! ## Lamps (R153 to R156) -/

/-- The target of a slot: its automatic pattern, or the override's (R153). -/
def lampTarget (s : Slot) : Pattern :=
  match s.lamp.override with
  | .auto => autoPattern s
  | .pattern p => p

/-- The Lamp Driver judges a slot after a change of its inputs: a new target is taken by R154, and in STANDBY the
pattern shown stays DARK and nothing is held (R156). -/
def Device.lampUpdate (d : Device) (i : SlotNo) : Device :=
  let s := d.slot i
  let target := lampTarget s
  if target = s.lamp.target then d
  else if d.power = .standby then d.updLamp i fun l => { l with target := target, shown := .dark, held := false }
  else d.updLamp i fun l => l.take target

/-- A slot's override and locate timer are set, and its target is shown at once (R155), but for STANDBY (R156). -/
def Device.lampOverride (d : Device) (i : SlotNo) (o : Override) (locate : Option Tick) : Device :=
  let d1 := d.updLamp i fun l => { l with override := o, locate := locate }
  let target := lampTarget (d1.slot i)
  d1.updLamp i fun l =>
    { l with target := target, shown := if d.power = .standby then .dark else target, held := false }

/-! ## Gates (R117 to R122) -/

/-- A gate takes another state: GATE is raised unless the change follows from FORCE GATE (R122). -/
def Device.setGate (d : Device) (silent : Bool) (i : SlotNo) (g : Gate) (timer : Option GraceTimer) : Device :=
  let d1 := d.updGate i fun r => { r with gate := g, graceTimer := timer }
  if silent then d1 else d1.raiseSlot .gate i

/-- R120: the grace timer of a DRAINING gate expires. -/
def Device.graceExpires (d : Device) (i : SlotNo) : Device :=
  (d.updGate i fun r => { r with forcedCloses := satAdd 255 r.forcedCloses 1 }).setGate false i .severed none

/-- The gate enters DRAINING and its grace timer starts; a grace of 0 expires at that moment (R119). -/
def Device.startDrain (d : Device) (silent : Bool) (i : SlotNo) : Device :=
  let grace := (d.slot i).gate.grace
  let d1 := d.setGate silent i .draining (some ⟨d.tick, grace⟩)
  if grace = 0 then d1.graceExpires i else d1

/-- The gate moves for a new cause set: the first row of R118 that applies. -/
def Device.gateMove (d : Device) (silent : Bool) (i : SlotNo) (causes : Causes) : Device :=
  let gate := (d.slot i).gate.gate
  if !causes.any then (if gate = .opened then d else d.setGate silent i .opened none)
  else if causes.immediate then
    match gate with
    | .opened | .draining => d.setGate silent i .severed none
    | .shut | .severed => d
  else
    match gate with
    | .opened => d.startDrain silent i
    | .draining | .shut | .severed => d

/-- The cause set of a slot is recomputed (R117): a changed set is stored and the gate moves at once. The lamp is
judged after both, since the cause set and the gate are inputs of its pattern (R153). -/
def Device.recompute (d : Device) (silent : Bool) (i : SlotNo) : Device :=
  let s := d.slot i
  let causes := causesOf s
  let d1 :=
    if causes = s.gate.causes then d
    else (d.updGate i fun r => { r with causes := causes }).gateMove silent i causes
  d1.lampUpdate i

/-- An admission change with its one recomputation of the cause set (R117). -/
def Device.setAdmission (d : Device) (i : SlotNo) (a : Admission) : Device :=
  (d.updSlot i fun s => { s with admission := a }).recompute false i

/-- The verdict of a slot changes; the lamp is judged (R153). The cause set is recomputed by the rule that changes
the verdict. -/
def Device.setVerdict (d : Device) (i : SlotNo) (v : Verdict) : Device :=
  (d.updSlot i fun s => { s with verdict := v }).lampUpdate i

/-- Flags join the suspicion flags of a slot; the lamp is judged (R153). -/
def Device.addFlags (d : Device) (i : SlotNo) (flags : Flags) : Device :=
  (d.updSlot i fun s => { s with flags := s.flags.union flags }).lampUpdate i

/-! ## The supply bus and attention sensing -/

/-- Whether the bus is idle: SB_CLK rests low and no select line is asserted (R18). -/
def Device.busIdle (d : Device) : Bool :=
  match d.seq with
  | none => true
  | some q => match q.phase with
    | .idle _ => true
    | .claimed _ | .selecting _ _ | .sending _ _ | .waiting _ | .receiving _ | .scanning _ => false

/-- The measurement that begins at a moment of idle bus: a low level is measured while sensing is ACTIVE in RUN or
WINDING DOWN (R32). -/
def Device.measureFresh (d : Device) : Measure :=
  if d.datLow ∧ d.sensing = .active ∧ d.power ≠ .standby then .running else .stopped

/-- The bus returns to idle now: SB_CLK falls to its low resting level (R18, R22). -/
def Device.goIdle (d : Device) : Device := { d with clockRested := false, measure := d.measureFresh }

/-- R36: suspended attention sensing is resumed. -/
def Device.resumeSensing (d : Device) : Device :=
  match d.sensing with
  | .active => d
  | .suspended =>
    let d1 := { d with sensing := .active, spurious := 0 }
    let d2 := if d1.busIdle then { d1 with measure := d1.measureFresh } else d1
    d2.raiseReason .busResumed

/-- R35: a spurious scan. The third in a row suspends attention sensing. -/
def Device.spuriousScan (d : Device) : Device :=
  if 3 ≤ d.spurious + 1 then
    ({ d with sensing := .suspended, spurious := 0, measure := .stopped }).raiseReason .busSuspended
  else { d with spurious := d.spurious + 1 }

/-- SEATED is raised, which resumes suspended attention sensing (R36). -/
def Device.raiseSeated (d : Device) (i : SlotNo) : Device := (d.raiseSlot .seated i).resumeSensing

/-! ## The Work List (R38 to R42) -/

/-- The answers of the Work List to a request (R40). -/
inductive Answer where
  | accepted | merged | noCartridge
  deriving DecidableEq, Repr

/-- Whether an entry is for work of a kind on a slot. -/
def Entry.isFor (e : Entry) (kind : WorkKind) (i : SlotNo) : Bool :=
  match e.job with
  | .scan => false
  | .onSlot k j _ => decide (k = kind) && decide (j = i)

/-- Whether an entry is for a slot. -/
def Entry.isOn (e : Entry) (i : SlotNo) : Bool :=
  match e.job with
  | .scan => false
  | .onSlot _ j _ => decide (j = i)

def KeyStore.isProvisioned : KeyStore → Bool
  | .provisioned _ => true
  | .blank | .storing _ => false

/-- The known marks of a slot: those of its identity. -/
def Slot.knownMarks (s : Slot) : Marks :=
  match s.identity with
  | none => Marks.empty
  | some id => id.marks

/-- Whether work of a kind on a slot is eligible (R41). A DEBIT is not while the slot's removal timer runs (R88; log entry
35). -/
def Device.eligibleFor (d : Device) (kind : WorkKind) (i : SlotNo) (wanted : Wanted) : Bool :=
  let s := d.slot i
  match kind with
  | .identify => decide (s.admission = .identifying)
  | .prove =>
    (decide (s.admission = .proving) || (decide (s.admission = .admitted) && decide (s.verdict = .proven))) &&
      d.keyStore.isProvisioned && s.meter.uncertain.isNone
  | .debit =>
    decide (s.admission = .admitted) && decide (s.verdict = .proven) && !s.flags.stopsDebit &&
      s.removalTimer.isNone && (decide (0 < s.meter.pending) || s.meter.uncertain.isSome)
  | .mark => decide (s.verdict = .proven) && (wanted.minus s.knownMarks).any
  | .poll => s.identity.isSome

/-- Whether an entry is eligible (R41). -/
def Device.eligible (d : Device) (e : Entry) : Bool :=
  match e.job with
  | .scan => true
  | .onSlot kind i _ => d.eligibleFor kind i e.wanted

/-- Whether a cancellation condition of the kind holds for a slot record (R42). -/
def cancels (s : Slot) (kind : WorkKind) (wanted : Wanted) : Bool :=
  match kind with
  | .debit => s.flags.stopsDebit || (decide (s.meter.pending = 0) && s.meter.uncertain.isNone)
  | .mark => !(wanted.minus s.knownMarks).any
  | .identify | .prove | .poll => false

/-- The listed entry for work of a kind on a slot, of which there is at most one (R38). -/
def Device.findEntry (d : Device) (kind : WorkKind) (i : SlotNo) : Option Entry :=
  d.work.find? fun e => e.isFor kind i

/-- The list without the entry for work of a kind on a slot; later entries move up (R38). -/
def Device.dropEntry (d : Device) (kind : WorkKind) (i : SlotNo) : Device :=
  { d with work := d.work.filter fun e => !e.isFor kind i }

/-- The list with the entry for work of a kind on a slot changed in its place. -/
def Device.mapEntry (d : Device) (kind : WorkKind) (i : SlotNo) (f : Entry → Entry) : Device :=
  { d with work := d.work.map fun e => if e.isFor kind i then f e else e }

/-- A listed entry is cancelled (R42). -/
def Device.cancelEntry (d : Device) (kind : WorkKind) (i : SlotNo) (origins : Origins) : Device :=
  let d1 := d.dropEntry kind i
  let d2 := d1.updSlot i fun s => { s with lastSequence := some ⟨kind, .cancelled, none, 0⟩ }
  d2.raiseDone origins i

/-- The cancellation conditions of a slot's listed entry of a kind are examined again (R42). -/
def Device.reexamineKind (d : Device) (kind : WorkKind) (i : SlotNo) : Device :=
  match d.findEntry kind i with
  | none => d
  | some e => if cancels (d.slot i) kind e.wanted then d.cancelEntry kind i e.origins else d

/-- The cancellation conditions of a slot's listed DEBIT and MARK entries are examined again (R42; when, within a step, is
log entry 37). -/
def Device.reexamine (d : Device) (i : SlotNo) : Device := (d.reexamineKind .debit i).reexamineKind .mark i

/-- A request for work of a kind on a slot is taken by the Work List (R40): nothing for a VACANT slot, merged into a
listed entry, declined or cancelled under R42, or listed at the end. In WINDING DOWN every DEBIT request is urgent, and
sets the flag where the entry is eligible (R46). -/
def Device.request (d : Device) (kind : WorkKind) (i : SlotNo) (origins : Origins) (wanted : Wanted) :
    Answer × Device :=
  let s := d.slot i
  if s.admission = .vacant then (.noCartridge, d)
  else
    match d.findEntry kind i with
    | some e =>
      let wanted' := e.wanted.union wanted
      let origins' := e.origins.union origins
      if cancels s kind wanted' then (.merged, d.cancelEntry kind i origins')
      else
        let urgent := decide (kind = .debit) && decide (d.power = .windingDown) && d.eligibleFor kind i wanted'
        (.merged, d.mapEntry kind i fun e =>
          { e with origins := origins', wanted := wanted', urgent := e.urgent || urgent })
    | none =>
      if cancels s kind wanted then (.accepted, d.raiseDone origins i)
      else
        let urgent := decide (kind = .debit) && decide (d.power = .windingDown) && d.eligibleFor kind i wanted
        (.accepted, { d with work := d.work ++ [⟨.onSlot kind i s.insertion, origins, urgent, wanted⟩] })

/-- A request by one of the device's own blocks, which receives no answer. -/
def Device.ask (d : Device) (kind : WorkKind) (i : SlotNo) (origins : Origins) : Device :=
  (d.request kind i origins Wanted.empty).2

/-- A MARK request with wanted marks, origin INTERNAL. -/
def Device.askMark (d : Device) (i : SlotNo) (wanted : Wanted) : Device :=
  (d.request .mark i Origins.ofInternal wanted).2

/-- The Meter's DEBIT request with origin INTERNAL (R95). -/
def Device.askDebit (d : Device) (i : SlotNo) : Device := d.ask .debit i Origins.ofInternal

/-- A SCAN is listed with origin ATTENTION, or merged into the listed one (R32). -/
def Device.askScan (d : Device) : Device :=
  if d.work.any fun e => decide (e.job = .scan) then
    { d with work := d.work.map fun e =>
        if e.job = .scan then { e with origins := e.origins.union Origins.ofAttention } else e }
  else { d with work := d.work ++ [⟨.scan, Origins.ofAttention, false, Wanted.empty⟩] }

/-- DONE for each of the entries that carried the System origin, in list order (R51). -/
def Device.raiseDones (d : Device) (i : SlotNo) : List Entry → Device
  | [] => d
  | e :: es => (d.raiseDone e.origins i).raiseDones i es

/-- All of a slot's listed entries are purged (R51). -/
def Device.purge (d : Device) (i : SlotNo) : Device :=
  let gone := d.work.filter fun e => e.isOn i
  ({ d with work := d.work.filter fun e => !e.isOn i }).raiseDones i gone

/-- Whether an entry or sequence is urgent work; only DEBITs are (R46). -/
def Device.urgentWork (d : Device) : Bool :=
  d.work.any (fun e => e.urgent) || (match d.seq with | none => false | some q => q.urgent)

/-- The urgent flag is cleared on every listed entry (R46). -/
def Device.clearUrgent (d : Device) : Device :=
  { d with work := d.work.map fun e => { e with urgent := false } }

/-- The urgent flag is cleared on every listed entry that is not eligible (R46). -/
def Device.dropUrgent (d : Device) : Device :=
  { d with work := d.work.map fun e => { e with urgent := e.urgent && d.eligible e } }

/-! ## The Store Queue (R128 to R135) -/

/-- The item that a write names. -/
def StoreWrite.item : StoreWrite → StoreItem
  | .entry p _ => .entry p
  | .header _ => .header
  | .key _ => .key

/-- The history entry that a write gives a place, if it is a write of that place. -/
def StoreWrite.entryAt (w : StoreWrite) (p : Place) : Option HistoryEntry :=
  match w with
  | .entry q e => if q = p then some e else none
  | .header _ | .key _ => none

/-- The current content of an entry place: the latest write queued, else the write in progress, else the stored
content (R128). -/
def Store.current (st : Store) (p : Place) : Option HistoryEntry :=
  match st.queue.findSome? fun w => w.write.entryAt p with
  | some e => some e
  | none =>
    match st.writing.bind fun w => w.write.entryAt p with
    | some e => some e
    | none => st.entries.get p

/-- A write is queued (R130): it replaces a queued write of the same item in place, and is CARRY if either is. -/
def Store.enqueue (st : Store) (w : StoreWrite) (carry : Bool) : Store :=
  if st.queue.any fun x => decide (x.write.item = w.item) then
    { st with queue := st.queue.map fun x => if x.write.item = w.item then ⟨w, x.carry || carry⟩ else x }
  else { st with queue := st.queue ++ [⟨w, carry⟩] }

/-- Whether the queue is empty: no queued write and no write in progress (R130). -/
def Store.idle (st : Store) : Bool := st.queue.isEmpty && st.writing.isNone

/-- A lookup by serial over the current content of the entry places (R134). Of two places that hold the serial it finds
the lower (log entry 38). -/
def Store.lookup (st : Store) (serial : BitVec 64) : Option Place :=
  allPlaces.find? fun p => match st.current p with | none => false | some e => decide (e.serial = serial)

/-- Whether the identity or the held identity of a slot has a serial. -/
def Slot.holdsSerial (s : Slot) (serial : BitVec 64) : Bool :=
  (match s.identity with | none => false | some x => decide (x.serial = serial)) ||
    (match s.held with | none => false | some x => decide (x.serial = serial))

/-- Whether an entry of a serial is protected: the serial of a slot whose merged mark is set (R134). -/
def Device.protects (d : Device) (serial : BitVec 64) : Bool :=
  allSlots.any fun j => (d.slot j).merged && (d.slot j).holdsSerial serial

/-- The entry with the smallest seen number; equal seen numbers are decided by the lower place (R135). -/
def leastSeen : List (Place × HistoryEntry) → Option (Place × HistoryEntry)
  | [] => none
  | x :: xs =>
    match leastSeen xs with
    | none => some x
    | some y => if y.2.seen < x.2.seen then some y else some x

/-- The entries that are not protected, in place order (R135). -/
def Device.candidates (d : Device) : List (Place × HistoryEntry) :=
  allPlaces.filterMap fun p =>
    match d.store.current p with
    | none => none
    | some e => if d.protects e.serial then none else some (p, e)

/-- The entry to evict: from the first tier of R135 that holds a candidate. -/
def Device.victim (d : Device) : Option (Place × HistoryEntry) :=
  let all := d.candidates
  match leastSeen (all.filter fun x => !x.2.flags.any && decide (x.2.unposted = 0)) with
  | some x => some x
  | none =>
    match leastSeen (all.filter fun x => decide (x.2.unposted = 0)) with
    | some x => some x
    | none => leastSeen all

/-- Where a write of an entry for a serial goes, and whether that evicts an entry with unposted ink: the serial's own
place, else the lowest blank place, else the place of the entry to evict (R135). -/
def Device.placeFor (d : Device) (serial : BitVec 64) : Option (Place × Bool) :=
  match d.store.lookup serial with
  | some p => some (p, false)
  | none =>
    match allPlaces.find? fun p => (d.store.current p).isNone with
    | some p => some (p, false)
    | none =>
      match d.victim with
      | none => none
      | some (p, e) => some (p, decide (0 < e.unposted))

/-- The identity whose serial a slot's entry is written under: the held identity when present, the identity
otherwise (R136). -/
def Slot.writtenIdentity (s : Slot) : Option Identity :=
  match s.held with
  | some x => some x
  | none => s.identity

/-- The recorded used of a slot's entry: the smallest confirmed used among the slot and the other merged slots that
hold the same serial (R136). -/
def Device.recordedUsed (d : Device) (i : SlotNo) (serial : BitVec 64) : Nat :=
  allSlots.foldl
    (fun a j => if j ≠ i ∧ (d.slot j).merged ∧ (d.slot j).holdsSerial serial then min a (d.slot j).meter.confirmed else a)
    (d.slot i).meter.confirmed

/-- The uncertain record of a write: the slot's own, or the confirmed used with the in-flight amount (R136). -/
def Meter.writtenUncertain (m : Meter) : Option Uncertain :=
  match m.uncertain, m.inFlight with
  | some u, _ => some u
  | none, some a => some ⟨m.confirmed, a⟩
  | none, none => none

/-- The content of a write of a slot's history entry (R136). `merge` is the new working seen number at an admission
merge. -/
def Device.entryContent (d : Device) (i : SlotNo) (id : Identity) (merge : Option Nat) : HistoryEntry :=
  let s := d.slot i
  let old := (d.store.lookup id.serial).bind d.store.current
  { serial := id.serial
    inkCode := id.inkCode
    capacity := s.meter.capacity.getD id.capacity
    recordedUsed := d.recordedUsed i id.serial
    unposted := satAdd max32 s.meter.pending (s.meter.inFlight.getD 0)
    uncertain := s.meter.writtenUncertain
    flags := match old with | none => s.flags | some e => e.flags.union s.flags
    seen := match merge, old with
      | some n, _ => n
      | none, some e => e.seen
      | none, none => d.store.workingSeen
    lastSlot := i }

/-- A write of a slot's history entry is queued (R136): addressed by R135, with HISTORY raised with reason LOSS where
an entry with unposted ink is evicted, and the refresh base becoming the recorded used written (R94). The refresh base of
another slot that holds the serial stays (log entry 33). -/
def Device.writeHistory (d : Device) (i : SlotNo) (carry : Bool) (merge : Option Nat) : Device :=
  match (d.slot i).writtenIdentity with
  | none => d
  | some id =>
    match d.placeFor id.serial with
    | none => d
    | some (p, loss) =>
      let content := d.entryContent i id merge
      let d1 := if loss then d.raiseReason .historyLoss else d
      let d2 := { d1 with store := d1.store.enqueue (.entry p content) carry }
      d2.updMeter i fun m => { m with refreshBase := some content.recordedUsed }

/-- Whether a carry is being made: the supply is LOW or a RESET PART carry is in progress (R87, R106, R141). -/
def Device.carrying (d : Device) : Bool := decide (d.supply = .low) || d.resetCarry

/-- Whether the carries of R142 and R143 and the writes of R168 take a slot: not VACANT, with its merged mark set. -/
def Slot.carried (s : Slot) : Bool := !decide (s.admission = .vacant) && s.merged

/-- A slot's entry is written if the slot is one that carries take. -/
def Device.writeIfCarried (d : Device) (carry : Bool) (i : SlotNo) : Device :=
  if (d.slot i).carried then d.writeHistory i carry none else d

/-- An entry write for every slot that carries take (R142, R143, R168), in slot number order (log entry 36). -/
def Device.writeAll (d : Device) (carry : Bool) : Device :=
  allSlots.foldl (fun d i => d.writeIfCarried carry i) d

/-- The slot's carry is queued again while a carry is being made (R87, R106). -/
def Device.requeueCarry (d : Device) (i : SlotNo) : Device :=
  if d.carrying && (d.slot i).merged then d.writeHistory i true none else d

/-- The working seen number advances, stopping at its limit, and the header write is queued (R129). -/
def Device.advanceSeen (d : Device) : Device :=
  let n := satAdd max32 d.store.workingSeen 1
  { d with store := ({ d.store with workingSeen := n }).enqueue (.header ⟨d.bootNumber, n⟩) false }

/-! ## Suspicion (R139) -/

/-- The effects of newly set suspicion flags (R139). -/
def Device.flagEffects (d : Device) (i : SlotNo) (new : Flags) : Device :=
  if !new.any then d
  else
    let d1 := (d.raiseSlot .suspect i).recompute false i
    if (d1.slot i).verdict = .proven then
      let d2 := d1.writeHistory i false none
      if new.anyWritten && !(d2.slot i).knownMarks.suspect then d2.askMark i ⟨false, true⟩ else d2
    else d1

/-- Flags set by one event: they join the flags, and the effects of the new ones follow; the listed entries are
examined again after them (R139, R42; log entry 37). -/
def Device.setFlags (d : Device) (i : SlotNo) (flags : Flags) : Device :=
  let new := flags.minus (d.slot i).flags
  ((d.addFlags i flags).flagEffects i new).reexamine i

/-! ## Levels (R114) -/

/-- A slot is reclassified: LEVEL is raised and the cause set recomputed where the class differs. The Boolean says
whether the new class brings the Meter's DEBIT request (R95). -/
def Device.reclassify (d : Device) (i : SlotNo) : Device × Bool :=
  let s := d.slot i
  let new := levelOf s.meter s.gate
  if new = s.gate.level then (d, false)
  else
    let d1 := (d.updGate i fun r => { r with level := new }).raiseSlot .level i
    (d1.recompute false i, debitLevel s.gate.level new)

/-- A new R is handed to the Gate Controller, whose new class may request a DEBIT at once (R90, R114). -/
def Device.handOn (d : Device) (i : SlotNo) : Device :=
  let (d1, trigger) := d.reclassify i
  if trigger then d1.askDebit i else d1

/-! ## The key store (R61) -/

/-- HISTORY with reason KEYS ABSENT, once per reset, when a slot is in PROVING while the key store is BLANK (R61). -/
def Device.keysAbsentCheck (d : Device) : Device :=
  if d.keyStore = .blank ∧ !d.keysAbsent ∧ (allSlots.any fun j => decide ((d.slot j).admission = .proving)) then
    ({ d with keysAbsent := true }).raiseReason .historyKeysAbsent
  else d

end Sys2Proof.Machine
end

