-- ==== Sys2Proof/Machine/Admission.lean ====
section
/-! DEFINITION. Insertions, removals, re-checks, admission and its merges with the history (chapters 1, 4 and 8). -/

namespace Sys2Proof.Machine

open Sys2Proof

/-! ## Aborts, removals and settles -/

/-- The uncertain-debit record is set to a sequence's expected used and amount if none is present (R103, R105). -/
def Meter.setUncertain (m : Meter) (expected amount : Nat) : Meter :=
  { m with uncertain := match m.uncertain with | some u => some u | none => some ⟨expected, amount⟩ }

/-- The Meter is told of the abort of a DEBIT: the record is set if none is present, then in-flight is folded back
into pending (R105). -/
def Meter.abortDebit (m : Meter) (expected amount : Nat) : Meter := (m.setUncertain expected amount).foldInFlight

/-- A sequence in flight on a slot is aborted with outcome ABORTED, in the order of R50. An exchange on the bus is
abandoned, and the bus is idle (R24); between two exchanges no line changes. -/
def Device.abortOn (d : Device) (i : SlotNo) : Device :=
  match d.seq with
  | none => d
  | some q =>
    match q.job with
    | .scan => d
    | .onSlot kind j _ =>
      if j = i then
        let d1 := if kind = .debit then d.updMeter i fun m => m.abortDebit q.expected q.amount else d
        let d2 := d1.updSlot i fun s => { s with lastSequence := some ⟨kind, .aborted, q.step, q.attempts⟩ }
        let d3 := d2.raiseDone q.origins i
        if d.busIdle then { d3 with seq := none } else ({ d3 with seq := none }).goIdle
      else d

/-- The metering fields are cleared to their VACANT values, which closes the account (R73, R89). The class returns to
NORMAL and raises LEVEL if it was another (R114); the cause set is recomputed by the rule that follows (R117). -/
def Device.closeAccount (d : Device) (i : SlotNo) : Device :=
  let before := (d.slot i).gate.level
  let d1 := d.updSlot i fun s => { s with meter := Meter.vacant, gate := { s.gate with level := .normal } }
  if before = .normal then d1 else d1.raiseSlot .level i

/-- What a start of settling and the new insertion of a close-out do alike: seated-at is captured, the insertion
number advances, the flags are emptied, and the merged mark, the proof items and the accepted-suspect flag are
cleared (R5, R17, R110). -/
def Slot.newInsertion (s : Slot) (now : Tick) : Slot :=
  { s with
    seatedAt := now, insertion := s.insertion + 1, flags := Flags.empty, merged := false
    proofCount := 0, lastProof := none, held := none, verdict := .none
    gate := { s.gate with accepted := false } }

/-- R5: a falling edge on a VACANT slot starts an insertion. -/
def Device.startSettling (d : Device) (i : SlotNo) : Device :=
  let d1 := d.updSlot i fun s =>
    { s.newInsertion d.tick with settleTimer := some d.tick, removalTimer := none }
  (d1.setAdmission i .settling).raiseSeated i

/-- R6: the removal timer expires in SETTLING, and the settle is abandoned. -/
def Device.abandonSettle (d : Device) (i : SlotNo) : Device :=
  let d1 := (d.purge i).closeAccount i
  let d2 := d1.updSlot i fun s =>
    { s with settleTimer := none, removalTimer := none, identity := none, cartridge := none }
  d2.setAdmission i .vacant

/-- Steps 3 and 4 of R8 and R17: the removal carry, if the merged mark is set (R141). -/
def Device.removalCarry (d : Device) (i : SlotNo) : Device :=
  if (d.slot i).merged then d.writeHistory i d.carrying none else d

/-- The record loses its cartridge: identity and held identity become absent and the verdict NONE (R8, R17). -/
def Slot.forget (s : Slot) : Slot := { s with identity := none, held := none, verdict := .none }

/-- R8: the removal of a seated slot, whole and in its order. -/
def Device.removal (d : Device) (i : SlotNo) : Device :=
  let d1 := d.updSlot i fun s => { s with removedAt := some d.tick }
  let d2 := ((d1.abortOn i).purge i).removalCarry i
  let d3 := (d2.closeAccount i).updSlot i fun s =>
    { s.forget with debouncedLow := false, settleTimer := none, removalTimer := none, cartridge := none }
  (d3.setAdmission i .vacant).raiseSlot .removed i

/-- R14: a re-check starts, with the origin of its IDENTIFY. -/
def Device.recheck (d : Device) (i : SlotNo) (origins : Origins) : Device :=
  let d1 := (d.abortOn i).updSlot i fun s =>
    { s with held := s.identity.or s.held, identity := none, verdict := .none }
  (d1.setAdmission i .identifying).ask .identify i origins

/-- R17: the close-out of a re-check that found a different serial, whole and in its order. -/
def Device.closeOut (d : Device) (i : SlotNo) : Device :=
  let d1 := d.updSlot i fun s => { s with removedAt := some d.tick }
  let d2 := ((d1.purge i).removalCarry i).closeAccount i
  let d3 := ((d2.updSlot i Slot.forget).setAdmission i .vacant).raiseSlot .removed i
  let d4 := (d3.updSlot i fun s => s.newInsertion d.tick).setAdmission i .identifying
  (d4.ask .identify i Origins.ofInternal).raiseSeated i

/-- R12: a slot becomes MUTE after a FAILED sequence. -/
def Device.becomeMute (d : Device) (i : SlotNo) : Device :=
  if (d.slot i).admission.seated then (d.setAdmission i .mute).raiseSlot .mute i else d

/-- The verdict becomes FAILED and REJECTED is raised, with the slot's admission state left to the caller (R10, R11). -/
def Device.reject (d : Device) (i : SlotNo) (reason : Rejection) : Device :=
  ((d.setVerdict i (.failed reason)).setAdmission i .rejected).raiseSlot .rejected i

/-! ## IDENTIFY (R10, R89) -/

/-- Whether a capacity is one that opens an account (R89). -/
def usableCapacity (capacity : Nat) : Bool := decide (1 ≤ capacity) && decide (capacity ≤ maxCapacity)

/-- The account of an insertion is opened at its first identity with a usable capacity (R89). -/
def Meter.openAccount (m : Meter) (id : Identity) : Meter :=
  match m.capacity with
  | some _ => m
  | none => if usableCapacity id.capacity then { m with capacity := some id.capacity, confirmed := id.used } else m

/-- The other slots whose identity has a serial (R10, step 1). -/
def Device.duplicates (d : Device) (i : SlotNo) (serial : BitVec 64) : List SlotNo :=
  allSlots.filter fun j =>
    decide (j ≠ i) && (match (d.slot j).identity with | none => false | some x => decide (x.serial = serial))

/-- The flags that an identity shows of itself (R10, steps 2 to 4). -/
def identityFlags (id : Identity) (duplicate : Bool) : Flags :=
  { Flags.empty with
    reuse := id.marks.exhausted && decide (id.used < id.capacity)
    sealFlag := id.marks.sealMark
    marked := id.marks.suspect
    duplicate := duplicate }

/-- R10 from the storing of the identity on: the account, the level, the flags, the range check, and PROVING or
REJECTED. Several other slots with the serial take DUPLICATE in slot number order (log entry 36). -/
def Device.storeIdentity (d : Device) (i : SlotNo) (id : Identity) (origins : Origins) : Device :=
  let d1 := d.updSlot i fun s => { s with identity := some id, held := none, meter := s.meter.openAccount id }
  let d2 := d1.handOn i
  let others := d2.duplicates i id.serial
  let d3 := others.foldl (fun d j => d.setFlags j { Flags.empty with duplicate := true }) d2
  let d4 := d3.setFlags i (identityFlags id !others.isEmpty)
  if usableCapacity id.capacity && !decide (id.generation = 0) then
    let d5 := (d4.setAdmission i .proving).keysAbsentCheck
    d5.ask .prove i { Origins.ofInternal with system := origins.system }
  else d4.reject i .badIdentity

/-- R10: an IDENTIFY for a slot in IDENTIFYING has ended DONE. A held identity with another serial is closed out
(R14, R17). -/
def Device.identified (d : Device) (i : SlotNo) (id : Identity) (origins : Origins) : Device :=
  if (d.slot i).admission = .identifying then
    match (d.slot i).held with
    | some h => if h.serial = id.serial then d.storeIdentity i id origins else d.closeOut i
    | none => d.storeIdentity i id origins
  else d

/-! ## The admission merges (R137, R138) -/

/-- The history entry that a lookup of a slot's identity finds. -/
def Device.entryOf (d : Device) (serial : BitVec 64) : Option HistoryEntry :=
  (d.store.lookup serial).bind d.store.current

/-- Whether another slot with its merged mark set holds the serial (R136, R137). -/
def Device.otherMerged (d : Device) (i : SlotNo) (serial : BitVec 64) : Bool :=
  allSlots.any fun j => decide (j ≠ i) && (d.slot j).merged && (d.slot j).holdsSerial serial

/-- The carried-in amount that an entry gives a cartridge that reports used `v` (R137, step 2). -/
def carriedInOf (entry : Option HistoryEntry) (v : Nat) : Nat :=
  match entry with
  | none => 0
  | some e =>
    match e.uncertain with
    | none => e.unposted
    | some u => if v = u.expected + u.amount then e.unposted - u.amount else e.unposted

/-- The flags that a first merge sets (R137, steps 3 and 4). -/
def firstMergeFlags (entry : Option HistoryEntry) (id : Identity) : Flags :=
  match entry with
  | none => Flags.empty
  | some e =>
    { Flags.empty with
      rollback := decide (id.used < e.recordedUsed)
      recorded := e.flags.any
      mismatch := !decide (e.inkCode = id.inkCode) || !decide (e.capacity = id.capacity) }

/-- The confirmed used that a first merge leaves: V, or the recorded used under ROLLBACK (R137, step 3), but no less than
the account's confirmed used before it (R90; log entry 12). -/
def firstMergeConfirmed (entry : Option HistoryEntry) (before v : Nat) : Nat :=
  max before (match entry with
    | none => v
    | some e => if v < e.recordedUsed then e.recordedUsed else v)

/-- Steps 6 and 7 of R137, steps 4 and 5 of R138: the seen number, the header and the entry. -/
def Device.mergeWrites (d : Device) (i : SlotNo) : Device :=
  let d1 := d.advanceSeen
  d1.writeHistory i false (some d1.store.workingSeen)

/-- The follow-on of a merge (R137, step 8). The listed entries are examined again at its end (R42; log entry 37). -/
def Device.mergeFollowOn (d : Device) (i : SlotNo) (new : Flags) (carriedIn : Nat) : Device :=
  let d1 := d.handOn i
  let d2 := if 0 < carriedIn then d1.askDebit i else d1
  let d3 := d2.flagEffects i new
  let s := d3.slot i
  let d4 := if s.flags.anyWritten && !s.knownMarks.suspect then d3.askMark i ⟨false, true⟩ else d3
  d4.reexamine i

/-- R137: the first admission merge. -/
def Device.firstMerge (d : Device) (i : SlotNo) (id : Identity) : Device :=
  let entry := d.entryOf id.serial
  let carriedIn := if d.otherMerged i id.serial then 0 else carriedInOf entry id.used
  let flags := firstMergeFlags entry id
  let new := flags.minus (d.slot i).flags
  let d1 := d.addFlags i flags
  let d2 := d1.updMeter i fun m =>
    { m with confirmed := firstMergeConfirmed entry m.confirmed id.used, carriedIn := carriedIn }.addPending carriedIn
  ((d2.mergeWrites i).mergeFollowOn i new carriedIn).updSlot i fun s => { s with merged := true }

/-- The flags that a re-check merge sets (R138, steps 1 to 3). -/
def recheckMergeFlags (confirmed v : Nat) : Flags :=
  { Flags.empty with rollback := decide (v < confirmed), mismatch := decide (confirmed < v) }

/-- R138: the same-serial re-check merge. -/
def Device.recheckMerge (d : Device) (i : SlotNo) (id : Identity) : Device :=
  let flags := recheckMergeFlags (d.slot i).meter.confirmed id.used
  let new := flags.minus (d.slot i).flags
  let d1 := d.addFlags i flags
  let d2 := d1.updMeter i fun m => { m with confirmed := max m.confirmed id.used }
  (d2.mergeWrites i).mergeFollowOn i new 0

/-! ## PROVE (R11, R66 to R68) -/

/-- A PROVE has ended DONE: the proof count advances, stopping at 65,535, and the last-proof stamp is captured
(R67). -/
def Slot.proved (s : Slot) (now : Tick) : Slot :=
  { s with proofCount := satAdd 65535 s.proofCount 1, lastProof := some now }

/-- R11: a match in PROVING. -/
def Device.admitProven (d : Device) (i : SlotNo) : Device :=
  let d1 := (d.updSlot i fun s => s.proved d.tick).setVerdict i .proven
  let d2 := d1.setAdmission i .admitted
  let d3 :=
    match (d2.slot i).identity with
    | none => d2
    | some id => if (d2.slot i).merged then d2.recheckMerge i id else d2.firstMerge i id
  d3.raiseSlot .admitted i

/-- R68: a re-prove mismatch. -/
def Device.reproveMismatch (d : Device) (i : SlotNo) : Device :=
  let d1 := d.setFlags i { Flags.empty with swap := true }
  let d2 := d1.setVerdict i (.failed .proofMismatch)
  (d2.recompute false i).raiseSlot .rejected i

/-- The result of a PROVE is acted on for the slot's admission state (R11, R66, R67, R68). -/
def Device.proveResult (d : Device) (i : SlotNo) (equal : Bool) : Device :=
  let s := d.slot i
  if s.admission = .proving then
    if equal then d.admitProven i else d.reject i .proofMismatch
  else if s.admission = .admitted ∧ s.verdict = .proven then
    if equal then d.updSlot i fun s => s.proved d.tick else d.reproveMismatch i
  else d

/-! ## POLL and MARK (R23, R140) -/

/-- The marks that a POLL or MARK reports join the known marks, and SEAL among them sets the SEAL flag (R140). -/
def Device.marksReported (d : Device) (i : SlotNo) (marks : Marks) : Device :=
  let d1 := d.updSlot i fun s =>
    { s with identity := s.identity.map fun id => { id with marks := id.marks.union marks } }
  if marks.sealMark then d1.setFlags i { Flags.empty with sealFlag := true } else d1.reexamine i

end Sys2Proof.Machine
end

