-- ==== Sys2Proof/Machine/Debit.lean ====
section
/-! DEFINITION. Debit write-back: the grant, the judgement of a reply, and what follows an outcome (chapter 6). -/

namespace Sys2Proof.Machine

open Sys2Proof

/-- The DEBIT statuses that pass the bus checks (R22). -/
inductive DebitStatus where
  | applied | stale | refused
  deriving DecidableEq, Repr

/-- The Meter's judgement of a DEBIT reply: the metering fields and the flags set by it, and either an outcome or, for
`none`, a follow-on exchange with its expected used and amount (R99 to R102). -/
structure Judgement where
  meter : Meter
  flags : Flags
  outcome : Option SeqOutcome
  expected : Nat
  amount : Nat
  deriving DecidableEq, Repr

/-- R97: a DEBIT is granted: pending moves to in-flight. -/
def Meter.grantDebit (m : Meter) : Meter := { m with inFlight := some m.pending, pending := 0 }

/-- R99: a reply APPLIED with used after `n`. `reconciled` says that the sequence has passed through a
reconciliation (R100). -/
def judgeApplied (m : Meter) (expected amount : Nat) (reconciled : Bool) (n : Nat) : Judgement :=
  if n = expected + amount then
    { meter := { m with
        confirmed := n, posted := postedPlus m.posted amount, inFlight := none, uncertain := none }
      flags := Flags.empty
      outcome := some (if reconciled then .reconciled else .applied)
      expected := expected, amount := amount }
  else
    { meter := { m with
        confirmed := min max32 (max (expected + amount) n), posted := postedPlus m.posted amount
        inFlight := none, uncertain := none
        saturated := m.saturated || decide (max32 < max (expected + amount) n) }
      flags := { Flags.empty with mismatch := true }
      outcome := some .mismatch
      expected := expected, amount := amount }

/-- R100: a reply STALE with used after `v` that shows the earlier request of amount `a` applied. -/
def judgeReconciled (m : Meter) (amount v a : Nat) : Judgement :=
  let m1 : Meter := { m with confirmed := v, posted := postedPlus m.posted a, uncertain := none }
  if 0 < amount - a then
    { meter := { m1 with inFlight := some (amount - a) }, flags := Flags.empty, outcome := none
      expected := v, amount := amount - a }
  else
    { meter := { m1 with inFlight := none }, flags := Flags.empty, outcome := some .reconciled
      expected := v, amount := 0 }

/-- R101: a reply STALE with used after `v` that does not reconcile. -/
def judgeStale (m : Meter) (expected amount v : Nat) : Judgement :=
  { meter := { ({ m with confirmed := max expected v }).foldInFlight with uncertain := none }
    flags := { Flags.empty with mismatch := true, rollback := decide (v < expected) }
    outcome := some .mismatch, expected := expected, amount := amount }

/-- R102: a reply REFUSED. -/
def judgeRefused (m : Meter) (expected amount : Nat) : Judgement :=
  { meter := { m.foldInFlight with uncertain := none }
    flags := { Flags.empty with mismatch := true }
    outcome := some .refused, expected := expected, amount := amount }

/-- Whether a reply STALE with used after `v` reconciles, and with which amount (R100). -/
def reconciles (m : Meter) (expected v : Nat) : Option Nat :=
  match m.uncertain with
  | none => none
  | some u => if u.expected = expected ∧ v = expected + u.amount then some u.amount else none

/-- R99 to R102: the judgement of a reply against the sequence and the uncertain-debit record. -/
def judgeDebit (m : Meter) (expected amount : Nat) (reconciled : Bool) (status : DebitStatus) (usedAfter : Nat) :
    Judgement :=
  match status with
  | .applied => judgeApplied m expected amount reconciled usedAfter
  | .refused => judgeRefused m expected amount
  | .stale =>
    match reconciles m expected usedAfter with
    | some a => judgeReconciled m amount usedAfter a
    | none => judgeStale m expected amount usedAfter

/-- R107: the EXHAUSTED condition is examined. -/
def Device.exhaustedCheck (d : Device) (i : SlotNo) : Device :=
  let s := d.slot i
  match s.meter.capacity with
  | none => d
  | some c => if c ≤ s.meter.confirmed ∧ !s.knownMarks.exhausted then d.askMark i ⟨true, false⟩ else d

/-- R108: the history refresh, when the confirmed used exceeds the refresh base by 1,000 µL or more. -/
def Device.refreshCheck (d : Device) (i : SlotNo) : Device :=
  let s := d.slot i
  match s.meter.refreshBase with
  | none => d
  | some b => if s.merged ∧ b + 1000 ≤ s.meter.confirmed then d.writeHistory i false none else d

/-- Whether an outcome is one that may have changed the confirmed used (R107). -/
def SeqOutcome.posts : SeqOutcome → Bool
  | .applied | .mismatch | .reconciled => true
  | .done | .refused | .failed | .aborted | .cancelled => false

/-- R106: the judgement of the last reply is handed on. `newFlags` are those the judgement newly set, and `changed`
says that the sequence has changed the confirmed used. -/
def Device.debitOutcome (d : Device) (i : SlotNo) (newFlags : Flags) (outcome : SeqOutcome) (changed : Bool) : Device :=
  let d1 := ((d.handOn i).flagEffects i newFlags).reexamine i
  let d2 := if outcome.posts && changed then (d1.exhaustedCheck i).refreshCheck i else d1
  d2.requeueCarry i

/-- R104: the third attempt of a DEBIT has failed; in-flight returns to pending and the record stays (R106). -/
def Device.debitFailed (d : Device) (i : SlotNo) : Device :=
  (((d.updMeter i Meter.foldInFlight).handOn i).reexamine i).requeueCarry i

end Sys2Proof.Machine
end

