-- ==== Sys2Proof/Machine/Bus.lean ====
section
/-! DEFINITION. Exchanges, scans and sequences on the supply bus (chapters 2 and 3). -/

namespace Sys2Proof.Machine

open Sys2Proof

/-! ## The arbiter (R43, R53, R54) -/

/-- The class of an entry in the grant order (R43). -/
def Entry.grantClass (e : Entry) : Nat :=
  match e.job with
  | .scan => 1
  | .onSlot kind _ _ =>
    if e.urgent then 2
    else match kind with
      | .identify | .prove => 3
      | .debit => 4
      | .mark | .poll => 5

/-- The oldest eligible entry of a class. -/
def Device.oldestOf (d : Device) (cls : Nat) : Option Entry :=
  d.work.find? fun e => decide (e.grantClass = cls) && d.eligible e

/-- The entry that the arbiter would grant: by class, then by age; urgent entries alone in WINDING DOWN (R43, R54). -/
def Device.nextEntry (d : Device) : Option Entry :=
  match d.power with
  | .run => [1, 2, 3, 4, 5].findSome? d.oldestOf
  | .windingDown => d.oldestOf 2
  | .standby => none

/-- Whether a RESET PART carry has ended and the reset is to act before the arbiter grants again (R172). -/
def Device.resetReady (d : Device) : Bool := d.resetCarry && d.store.idle && d.seq.isNone

/-- Whether the arbiter may grant: no sequence in flight, the supply NORMAL, and no reset about to act (R43, R172). -/
def Device.mayGrant (d : Device) : Bool :=
  d.seq.isNone && decide (d.supply = .normal) && !d.resetReady

/-! ## The end of a sequence (R48) -/

/-- Steps 2 to 5 of R48 for a slot's sequence with an outcome: where the insertion numbers agree, the owner acts and the
last sequence is written; then DONE, and the sequence in flight becomes absent. -/
def Device.finishSlot (d : Device) (q : Sequence) (kind : WorkKind) (i : SlotNo) (insertion : BitVec 8)
    (outcome : SeqOutcome) (act : Device → Device) : Device :=
  let d1 :=
    if (d.slot i).insertion = insertion then
      (act d).updSlot i fun s => { s with lastSequence := some ⟨kind, outcome, q.step, q.attempts⟩ }
    else d
  { d1.raiseDone q.origins i with seq := none }

/-- What the owner of a FAILED sequence's kind does before the slot becomes MUTE (R12, R104). -/
def Device.failedAct (d : Device) (kind : WorkKind) (i : SlotNo) : Device :=
  (if kind = .debit then d.debitFailed i else d).becomeMute i

/-- The third attempt has failed: the sequence ends FAILED (R45, R48); a FAILED scan counts as spurious (R34). -/
def Device.endFailed (d : Device) (q : Sequence) : Device :=
  match q.job with
  | .scan => { d.spuriousScan with seq := none }
  | .onSlot kind i insertion => d.finishSlot q kind i insertion .failed fun d => d.failedAct kind i

/-! ## Failed exchanges (R25, R45, R103) -/

/-- A failed attempt is charged to its slot, stopping at 255 (R25). -/
def Slot.chargeError (s : Slot) : Slot := { s with busErrors := satAdd 255 s.busErrors 1 }

/-- What a failed exchange does to its slot's record: the bus error count, and for a DEBIT of the current insertion
the uncertain-debit record (R25, R103). -/
def Slot.exchangeFailed (s : Slot) (kind : WorkKind) (insertion : BitVec 8) (expected amount : Nat) : Slot :=
  let s1 := s.chargeError
  if kind = .debit ∧ s.insertion = insertion then { s1 with meter := s1.meter.setUncertain expected amount } else s1

/-- The exchange of `q` has failed with its step reached in `q`: the bus is idle, the failure is charged, and either
the 2 ms of idle bus start or the sequence ends FAILED (R45). -/
def Device.failExchange (d : Device) (q : Sequence) : Device :=
  let q1 := { q with phase := .idle d.tick, prepared := none, proveHold := none }
  let d1 := ({ d with seq := some q1 }).goIdle
  let d2 :=
    match q.job with
    | .scan => d1
    | .onSlot kind i insertion => d1.updSlot i fun s => s.exchangeFailed kind insertion q.expected q.amount
  if q.attempts < maxAttempts then d2 else d2.endFailed q1

/-! ## The start of an exchange (R19, R20, R33, R44, R64) -/

/-- The master key; the key store is provisioned whenever a PROVE runs (R41). -/
def KeyStore.master : KeyStore → Key
  | .provisioned km => km
  | .blank | .storing _ => ⟨0, 0, 0, 0⟩

/-- The reference used of a PROVE exchange: the identity's used in PROVING, else the confirmed used (R65). -/
def Slot.referenceUsed (s : Slot) (id : Identity) : Nat :=
  if s.admission = .proving then id.used else s.meter.confirmed

/-- What the Proof Unit makes and holds at the start of a PROVE exchange (R62, R64, R65). -/
def Device.makeProveHold (d : Device) (i : SlotNo) (insertion : BitVec 8) : Option ProveHold :=
  let s := d.slot i
  let km := d.keyStore.master
  s.identity.map fun id =>
    let n := makeNonce km d.bootNumber d.nonceCount i insertion
    { nonceHigh := n.x, nonceLow := n.y
      cartridgeKey := cartridgeKey km id.serial id.inkCode id.generation
      used := s.referenceUsed id, capacity := id.capacity, printerMarks := id.marks.printerValue }

/-- The request's parameters of an exchange of a kind (R20, R44). -/
def Sequence.parameters (q : Sequence) : WorkKind → List Byte
  | .identify | .poll => []
  | .prove =>
    match q.proveHold with
    | none => []
    | some h => beBytes 4 h.nonceHigh.toNat ++ beBytes 4 h.nonceLow.toNat
  | .debit => beBytes 4 q.expected ++ beBytes 4 q.amount
  | .mark => [q.marksSent.toMarks.toByte]

/-- The sequence at the start of an exchange: what it draws from the blocks that own its state (R44). -/
def Device.drawExchange (d : Device) (q : Sequence) : Sequence :=
  match q.job with
  | .onSlot .mark i _ => { q with marksSent := q.wanted.minus (d.slot i).knownMarks }
  | .onSlot .prove i insertion => { q with proveHold := d.makeProveHold i insertion }
  | .scan | .onSlot .identify _ _ | .onSlot .debit _ _ | .onSlot .poll _ _ => q

/-- The nonce count advances at the start of every PROVE exchange (R63, R64). -/
def Device.spendNonce (d : Device) (q : Sequence) : Device :=
  match q.job with
  | .onSlot .prove _ _ => { d with nonceCount := d.nonceCount + 1 }
  | .scan | .onSlot .identify _ _ | .onSlot .debit _ _ | .onSlot .mark _ _ | .onSlot .poll _ _ => d

/-- The cartridge of a slot, if there is one, makes what it makes of a request packet (R27): its new state, and the
reply it prepares. -/
def Slot.hearRequest (s : Slot) (packet : List Byte) : Slot × Option (List Byte) :=
  match s.cartridge with
  | none => (s, none)
  | some c =>
    match c.receive packet with
    | none => (s, none)
    | some (c', reply) => ({ s with cartridge := some c' }, some reply)

/-- The request of a slot's exchange has been sent: REQUEST SENT is reached, and the reply window starts (R20). The
cartridge of a slot of `whole` has received it whole (R27). -/
def Device.sendRequest (d : Device) (q : Sequence) (kind : WorkKind) (i : SlotNo) (whole : BitVec 8) : Device :=
  let packet := requestPacket kind (q.parameters kind)
  let heard : Slot × Option (List Byte) :=
    if whole.getLsbD i.val then (d.slot i).hearRequest packet else (d.slot i, none)
  let d1 := d.updSlot i fun _ => heard.1
  { d1 with seq := some { q with step := some .requestSent, phase := .waiting d.tick, prepared := heard.2 } }

/-- Every scanned cartridge that receives the scan request whole sets its attention signalled (R33). -/
def Device.hearScan (d : Device) (heard : BitVec 8) : Device :=
  allSlots.foldl
    (fun d i => if heard.getLsbD i.val then d.updSlot i fun s => { s with cartridge := s.cartridge.map Cartridge.hearScan }
      else d) d

/-- The slots whose identity is present: those a scan selects (R33). -/
def Device.identified8 (d : Device) : BitVec 8 := setOfSlots fun i => (d.slot i).identity.isSome

/-- The scan request has been sent and the answer periods run (R33). The cartridges of the slots of `whole` have received
it whole. -/
def Device.sendScan (d : Device) (q : Sequence) (scanned whole : BitVec 8) : Device :=
  { d.hearScan (scanned &&& whole) with seq := some { q with step := some .requestSent, phase := .scanning scanned } }

/-- The select lines that an exchange or scan asserts once it has claimed the bus (R19, R33). -/
def Device.selectSet (d : Device) (job : Job) : BitVec 8 :=
  match job with
  | .scan => d.identified8
  | .onSlot _ i _ => setOfSlots fun j => decide (j = i)

/-- The request of an exchange or scan with its select lines asserted is sent to its end (R20, R33). -/
def Device.sendWhole (d : Device) (q : Sequence) (selected whole : BitVec 8) : Device :=
  match q.job with
  | .scan => d.sendScan q selected whole
  | .onSlot kind i _ => d.sendRequest q kind i whole

/-- An exchange or scan begins on the idle bus (R19, R33, R44). An attempt adds one to the attempts used. SB_DAT found
low after the claim fails it with BUS_FAULT at SELECTED; else it comes as far as `claim` says (log entry 4). -/
def Device.beginExchange (d : Device) (q : Sequence) (attempt : Bool) (claim : Claim) : Device :=
  let q1 := { d.drawExchange { q with attempts := if attempt then q.attempts + 1 else q.attempts } with prepared := none }
  let q2 := { q1 with step := some .selected }
  let d1 := { d.spendNonce q with measure := .stopped, clockRested := false }
  match claim with
  | .held => ({ d1 with datLow := true }).failExchange q2
  | .sent whole => ({ d1 with datLow := false }).sendWhole q2 (d.selectSet q.job) whole
  | .sending whole => { d1 with datLow := false, seq := some { q2 with phase := .sending whole (d.selectSet q.job) } }
  | .selecting whole => { d1 with datLow := false, seq := some { q2 with phase := .selecting whole (d.selectSet q.job) } }
  | .claimed whole => { d1 with datLow := false, seq := some { q1 with phase := .claimed whole } }

/-- A request under way is sent to its end (R19, R20, R33; log entry 4). -/
def Device.requestEnds (d : Device) : Device :=
  match d.seq with
  | none => d
  | some q =>
    match q.phase with
    | .claimed whole => d.sendWhole { q with step := some .selected } (d.selectSet q.job) whole
    | .selecting whole selected | .sending whole selected => d.sendWhole q selected whole
    | .waiting _ | .receiving _ | .scanning _ | .idle _ => d

/-- The entry leaves the list: the first one for its job (R43). -/
def Device.unlist (d : Device) (e : Entry) : Device := { d with work := d.work.erase e }

/-- The sequence of a granted entry, with attempts used 0 (R44); a DEBIT takes E and A (R97). -/
def Device.newSequence (d : Device) (e : Entry) : Sequence :=
  let m : Meter := match e.job with
    | .scan => Meter.vacant
    | .onSlot _ i _ => (d.slot i).meter
  { job := e.job, origins := e.origins, urgent := e.urgent, wanted := e.wanted, attempts := 0, step := none
    phase := .idle d.tick, expected := m.confirmed, amount := m.pending, reconciled := false
    marksSent := Wanted.empty, proveHold := none, prepared := none }

/-- The Meter opens a granted DEBIT: pending moves to in-flight and R is handed on (R97). -/
def Device.openDebit (d : Device) (e : Entry) : Device :=
  match e.job with
  | .onSlot .debit i _ => (d.updMeter i Meter.grantDebit).handOn i
  | .scan | .onSlot .identify _ _ | .onSlot .prove _ _ | .onSlot .mark _ _ | .onSlot .poll _ _ => d

/-- An entry is granted: it leaves the list at once and its sequence begins (R43, R44). -/
def Device.grantEntry (d : Device) (e : Entry) (claim : Claim) : Device :=
  let q := d.newSequence e
  ((d.unlist e).openDebit e).beginExchange q true claim

/-! ## Replies (R21 to R23, R45) -/

/-- Whether the reply window of an exchange of a kind still allows a reply, and whether it has run out; at its last
moment either may be taken first (R21, 00_scope.md section 5.2). -/
def windowOpen (now since : Tick) (kind : WorkKind) : Bool := decide (elapsed now since ≤ replyWindow kind)
def windowOut (now since : Tick) (kind : WorkKind) : Bool := decide (replyWindow kind ≤ elapsed now since)

/-- The DEBIT status that a status byte names, among those R22 allows. -/
def debitStatus (status : Byte) : DebitStatus :=
  if status = statusApplied then .applied else if status = statusStale then .stale else .refused

/-- A DEBIT reply is judged, and the sequence ends or a follow-on exchange starts at once (R99 to R102, R106, R45). -/
def Device.debitReply (d : Device) (q : Sequence) (i : SlotNo) (insertion : BitVec 8) (status : Byte) (usedAfter : Nat)
    (followOn : Claim) : Device :=
  let s := d.slot i
  let j := judgeDebit s.meter q.expected q.amount q.reconciled (debitStatus status) usedAfter
  match j.outcome with
  | some outcome =>
    d.finishSlot q .debit i insertion outcome fun d =>
      let new := j.flags.minus s.flags
      let changed := q.reconciled || !decide (j.meter.confirmed = s.meter.confirmed)
      ((d.updMeter i fun _ => j.meter).addFlags i j.flags).debitOutcome i new outcome changed
  | none =>
    if s.insertion = insertion then
      let d1 := ((d.updMeter i fun _ => j.meter).handOn i).reexamine i
      d1.beginExchange { q with expected := j.expected, amount := j.amount, reconciled := true } false followOn
    else d.finishSlot q .debit i insertion .reconciled fun d => d

/-- The comparison of a PROVE reply with the expected response (R66). -/
def Sequence.proveEqual (q : Sequence) (id : Option Identity) (high low : Word) : Bool :=
  match q.proveHold, id with
  | some h, some id =>
    decide (proofResponse h.cartridgeKey h.nonceHigh h.nonceLow h.used h.capacity h.printerMarks id.inkCode = ⟨high, low⟩)
  | _, _ => false

/-- The content of a reply that has passed its checks is handed on (R23). -/
def Device.handReply (d : Device) (q : Sequence) (kind : WorkKind) (i : SlotNo) (insertion : BitVec 8)
    (content : ReplyContent) (followOn : Claim) : Device :=
  match content with
  | .identify id => d.finishSlot q kind i insertion .done fun d => d.identified i id q.origins
  | .prove high low =>
    let equal := q.proveEqual (d.slot i).identity high low
    d.finishSlot q kind i insertion (if equal then .done else .mismatch) fun d => d.proveResult i equal
  | .debit status usedAfter => d.debitReply q i insertion status usedAfter followOn
  | .mark marks => d.finishSlot q kind i insertion .done fun d => d.marksReported i marks
  | .poll marks => d.finishSlot q kind i insertion .done fun d => d.marksReported i marks

/-- The cartridge has sent a prepared reply to its last bit (R31 for POLL). -/
def Slot.replySent (s : Slot) (kind : WorkKind) (prepared : Option (List Byte)) : Slot :=
  if kind = .poll ∧ prepared.isSome then { s with cartridge := s.cartridge.map Cartridge.pollSent } else s

/-- R22: a reply has been read whole. The bus returns to idle, and the attempt succeeds or fails CRC_BAD. -/
def Device.takeReply (d : Device) (q : Sequence) (kind : WorkKind) (i : SlotNo) (insertion : BitVec 8)
    (bytes : List Byte) (followOn : Claim) : Device :=
  let d1 := d.updSlot i fun s => s.replySent kind q.prepared
  let q1 := { q with step := some .replyReceived }
  match checkReply kind bytes (d.slot i).knownMarks q.marksSent with
  | none => d1.failExchange q1
  | some content =>
    let q2 := { q1 with step := some .checked, phase := .idle d.tick, prepared := none }
    (({ d1 with seq := some q2 }).goIdle).handReply q2 kind i insertion content followOn

/-! ## Scans (R33, R35) -/

/-- The attention map as the scanned cartridges drive it: a cartridge with attention pending pulls in its period. -/
def Device.drivenMap (d : Device) : BitVec 8 :=
  setOfSlots fun i => match (d.slot i).cartridge with | none => false | some c => c.attentionPending

/-- POLLs with origin ATTENTION for the set bits whose slots have identity present (R35), in slot number order (log entry
36). -/
def Device.pollMap (d : Device) (map : BitVec 8) : Device :=
  (slotsOfSet map).foldl
    (fun d i => if (d.slot i).identity.isSome then d.ask .poll i Origins.ofAttention else d) d

/-- R35: the attention map is taken after the scan has ended. -/
def Device.takeMap (d : Device) (map : BitVec 8) : Device :=
  let d1 := ({ d with seq := none }).goIdle
  if map = 0 then d1.spuriousScan else ({ d1 with spurious := 0 }).pollMap map

/-! ## The lines of the bus (R18) -/

/-- Whether SB_CLK rests at its high level: from the start of an exchange or scan to its end. -/
def Device.clockHigh (d : Device) : Bool := !d.busIdle

/-- The select lines that are asserted (R18, R19, R33): the addressed slot's in an exchange from CLAIMED on, those of all
scanned slots from the sampling of SB_DAT to the end of a scan request, and in answer period `k` that of slot k alone, if
it is a scanned slot. -/
def Device.selects (d : Device) (k : SlotNo) : BitVec 8 :=
  match d.seq with
  | none => 0
  | some q =>
    match q.phase with
    | .claimed _ | .idle _ => 0
    | .selecting _ selected | .sending _ selected => selected
    | .scanning scanned => scanned &&& setOfSlots fun j => decide (j = k)
    | .waiting _ | .receiving _ =>
      match q.job with
      | .scan => 0
      | .onSlot _ i _ => setOfSlots fun j => decide (j = i)

/-- Whether SB_DAT is the device's to drive: while it sends request bits, and at no other time (R18). -/
def Device.drivesData (d : Device) : Bool :=
  match d.seq with
  | none => false
  | some q =>
    match q.phase with
    | .sending _ _ => true
    | .claimed _ | .selecting _ _ | .waiting _ | .receiving _ | .scanning _ | .idle _ => false

/-- Whether the cartridge of a slot pulls SB_DAT low for attention (R30). -/
def Device.pullsForAttention (d : Device) (i : SlotNo) : Bool :=
  d.busIdle && (match (d.slot i).cartridge with | none => false | some c => c.pulls d.clockRested)

end Sys2Proof.Machine
end

