-- ==== Sys2Proof/Machine/Metering.lean ====
section
/-! DEFINITION. The accumulation step and the service lines (chapter 5). -/

namespace Sys2Proof.Machine

open Sys2Proof

/-- The whole microlitres that a residue and an addition make (R83, R91). -/
def wholePart (residue addition : Nat) : Nat := (residue + addition) / quantaPerMicrolitre

/-- The residue that they leave. -/
def residueAfter (residue addition : Nat) : Nat := (residue + addition) % quantaPerMicrolitre

/-- R83: the accumulation on the metering fields. -/
def Meter.accumulate (m : Meter) (addition : Nat) : Meter :=
  (({ m with residue := residueAfter m.residue addition }).addMetered (wholePart m.residue addition)).addPending
    (wholePart m.residue addition)

/-- R91: an addition for a VACANT slot is orphan ink. -/
def Slot.addOrphan (s : Slot) (addition : Nat) : Slot :=
  { s with
    orphanResidue := residueAfter s.orphanResidue addition
    orphanCount := satAdd 65535 s.orphanCount (wholePart s.orphanResidue addition) }

/-- R87: what follows an accumulation on a slot that is not VACANT. `whole` is its whole part, and `leak` says that
it came from a tally record taken with the gate SHUT or SEVERED (R78). -/
def Device.afterAccumulation (d : Device) (i : SlotNo) (whole : Nat) (leak : Bool) : Device :=
  let (d1, level) := d.reclassify i
  let d2 := d1.reexamineKind .debit i
  let s := d2.slot i
  let d3 := if 0 < whole ∧ s.config.debitStep ≤ s.meter.pending then d2.askDebit i else d2
  let d4 := if level then d3.askDebit i else d3
  let d5 := if leak then d4.raiseSlot .leak i else d4
  d5.requeueCarry i

/-- An addition of quanta to a slot, as the slot stands (R83, R87, R88, R91). `tally` says that it comes from a tally
record. An addition of 0 is none (R77, R80, R81). -/
def Device.addInk (d : Device) (i : SlotNo) (addition : Nat) (tally : Bool) : Device :=
  let s := d.slot i
  if addition = 0 then d
  else if s.admission = .vacant then (d.updSlot i fun s => s.addOrphan addition).raiseSlot .orphan i
  else
    (d.updMeter i fun m => m.accumulate addition).afterAccumulation i (wholePart s.meter.residue addition)
      (tally && s.gate.gate.closed)

/-- The quanta of a tally record under a slot's effective weights (R77). -/
def tallyQuanta (c : MeterConfig) (nF nN nC : Nat) : Nat :=
  nF * effectiveWeight c.fine c.trim + nN * effectiveWeight c.normal c.trim + nC * effectiveWeight c.coarse c.trim

/-! ## Service lines (R79 to R82) -/

/-- The active level of a line: HIGH under RISING or HIGH, LOW under FALLING or LOW; the active edge of STROKE mode
goes to it (R80, R81). -/
def Polarity.active : Polarity → Bool
  | .risingOrHigh => true
  | .fallingOrLow => false

/-- Whether a slot's line shows the active level of its polarity. -/
def Slot.lineActive (s : Slot) : Bool := decide (s.serviceHigh = s.config.polarity.active)

/-- Whether a VALVE active period is running (R81, R82). -/
def Slot.valveOpen (s : Slot) : Bool := decide (s.config.mode = .valve) && s.lineActive

/-- R82: the trailing edge of a VALVE active period requests a DEBIT if pending is above 0. -/
def Device.valveTrails (d : Device) (i : SlotNo) : Device :=
  if 0 < (d.slot i).meter.pending then d.askDebit i else d

end Sys2Proof.Machine
end

