-- ==== Sys2Proof/Machine/Power.lean ====
section
/-! DEFINITION. Winding down, STANDBY, wake causes, the resets, and what ends every command (chapter 11, R16, R46). -/

namespace Sys2Proof.Machine

open Sys2Proof

/-! ## Winding down (R167, R168) -/

/-- The check of R168: each time debits settled comes to hold, an ORDINARY write of every carried slot's entry is
queued. -/
def Device.settleCheck (d : Device) : Device :=
  if d.urgentWork then { d with debitsSettled := false }
  else if d.debitsSettled then d
  else { d.writeAll false with debitsSettled := true }

/-- What ends every command: in WINDING DOWN, entries that stopped being eligible lose their urgent flag (R46), and the
check of R168 is made. -/
def Device.conclude (d : Device) : Device :=
  if d.power = .windingDown then d.dropUrgent.settleCheck else d

/-- Whether winding down requests an urgent DEBIT for a slot (R167, step 3). -/
def Slot.windDownDebit (s : Slot) : Bool :=
  decide (s.admission = .admitted) && decide (s.verdict = .proven) && !s.flags.stopsDebit && decide (0 < s.meter.pending)

/-- Whether an entry is for a DEBIT. -/
def Entry.isDebit (e : Entry) : Bool :=
  match e.job with
  | .onSlot .debit _ _ => true
  | .scan | .onSlot .identify _ _ | .onSlot .prove _ _ | .onSlot .mark _ _ | .onSlot .poll _ _ => false

/-- R167, steps 1 to 3: winding down begins, its DEBITs requested in slot number order (log entry 36). Step 4, the check
of R168, ends the command (`Device.conclude`). -/
def Device.beginWindingDown (d : Device) : Device :=
  let d1 := { d with power := .windingDown, debitsSettled := false }
  let d2 := { d1 with work := d1.work.map fun e => { e with urgent := e.urgent || (e.isDebit && d1.eligible e) } }
  allSlots.foldl (fun d i => if (d.slot i).windDownDebit then d.askDebit i else d) d2

/-- Ready: debits settled, no sequence in flight, and the Store Queue empty (R167). -/
def Device.ready (d : Device) : Bool :=
  decide (d.power = .windingDown) && !d.urgentWork && d.debitsSettled && d.seq.isNone && d.store.idle

/-- Every lamp shows DARK in STANDBY (R156). -/
def LampRecord.sleep (l : LampRecord) : LampRecord := { l with shown := .dark, held := false }

/-- Each lamp shows its target, as a change out of DARK (R156, R169). -/
def LampRecord.awake (l : LampRecord) : LampRecord := { l with shown := l.target, held := false }

/-- What entering STANDBY does to a slot: a slot outside the wake-enable mask is frozen, its timers stopped (R15), and
its lamp shows DARK (R156). -/
def Slot.sleep (s : Slot) (watched : Bool) : Slot :=
  { s with
    settleTimer := if watched then s.settleTimer else none
    removalTimer := if watched then s.removalTimer else none
    lamp := s.lamp.sleep }

/-- Every slot changed by a function of its number and record, in slot order. -/
def Device.updAll (d : Device) (f : SlotNo → Slot → Slot) : Device :=
  allSlots.foldl (fun d i => d.updSlot i (f i)) d

/-- R168: the device enters STANDBY. -/
def Device.enterStandby (d : Device) : Device :=
  let d1 := { d with power := .standby, debitsSettled := false, measure := .stopped }
  d1.updAll fun i s => s.sleep (d.wakeEnabled i)

/-- Return to RUN from WINDING DOWN: the urgent flags are cleared (R46). -/
def Device.stopWindingDown (d : Device) : Device :=
  { d.clearUrgent with power := .run, debitsSettled := false }

/-- R16: a slot outside the mask is re-evaluated from the present level of its presence line. -/
def Device.reevaluate (d : Device) (i : SlotNo) : Device :=
  let s := d.slot i
  match s.admission with
  | .vacant => if s.presenceLow then d.startSettling i else d
  | .settling =>
    if s.presenceLow then d.updSlot i fun s => { s with settleTimer := some d.tick }
    else d.updSlot i fun s => { s with removalTimer := some d.tick }
  | .identifying | .proving | .admitted | .rejected | .mute =>
    if s.presenceLow then d.recheck i Origins.ofInternal
    else d.updSlot i fun s => { s with removalTimer := some d.tick }

/-- R169, steps 1 to 4, in STANDBY. The slots outside the mask are re-evaluated in slot number order (R16; log entry
36). -/
def Device.leaveStandby (d : Device) (reason : Reason) : Device :=
  let d1 := { d with power := .run }
  let d2 := ({ d1 with measure := d1.measureFresh }).raiseReason reason
  let d3 := allSlots.foldl (fun d i => if d.wakeEnabled i then d else d.reevaluate i) d2
  d3.updAll fun _ s => { s with lamp := s.lamp.awake }

/-- R169: a wake cause that cancels winding down and ends STANDBY: WAKE, a JET TALLY, a presence change. In RUN it is
none. The cause itself is acted on after this. -/
def Device.wakeCause (d : Device) (reason : Reason) : Device :=
  match d.power with
  | .run => d
  | .windingDown => d.stopWindingDown.raiseReason reason
  | .standby => d.leaveStandby reason

/-- R169: a presence change is a wake cause on a wake-enabled slot. -/
def Device.presenceChange (d : Device) (i : SlotNo) : Device :=
  if d.wakeEnabled i then d.wakeCause .wokenPresence else d

/-! ## Resets (R171, R172) -/

/-- What the History Store keeps across every reset, and what it makes of it: the queue is emptied and a write in
progress lost (R133), and the header write of the new boot number is queued (R129). The spare copy that the lost write was
made into stays unsettled (log entry 15). -/
def Store.afterReset (st : Store) : Store :=
  let header : Header :=
    match st.header with
    | none => ⟨1, 0⟩
    | some h => ⟨h.boot + 1, h.seen⟩
  { st with queue := [⟨.header header, false⟩], writing := none, workingSeen := header.seen }

/-- The new boot number (R129). -/
def Store.newBoot (st : Store) : Word :=
  match st.header with
  | none => 1
  | some h => h.boot + 1

/-- The key store after a reset (R58). -/
def Store.keyStore (st : Store) : KeyStore :=
  match st.key with
  | none => .blank
  | some k => .provisioned k

/-- Every item of volatile state takes its reset value, and the non-volatile items, the lines and the cartridges stay
(R171). The event lists are emptied (R151). On a bus that was idle SB_CLK goes on resting low (R18, R30). -/
def Device.volatileReset (d : Device) : Device :=
  let base : Device :=
    { Device.afterFirstPowerOn with
      clockRested := d.busIdle && d.clockRested
      store := d.store.afterReset, bootNumber := d.store.newBoot, keyStore := d.store.keyStore
      engine := { Port.afterPowerOn with events := [] }, system := { Port.afterPowerOn with events := [] } }
  base.updAll fun i _ =>
    Slot.afterReset (d.slot i).presenceLow (d.slot i).serviceHigh (d.slot i).cartridge

/-- The end of a reset: RESET on each list (R151), the insertions of slots whose presence lines are low (R4), in slot
number order (log entry 36), and the supply state as it is found (R170; log entry 24). -/
def Device.endReset (d : Device) (reason : Reason) (supplyAtRising : Bool) : Device :=
  let d1 := d.raiseReason reason
  let d2 := allSlots.foldl (fun d i => if (d.slot i).presenceLow then d.startSettling i else d) d1
  if supplyAtRising then d2 else ({ d2 with supply := .low }).raiseReason .supplyLow

/-- A reset with the lines as they stand (R172). -/
def Device.resetInPlace (d : Device) (reason : Reason) (supplyAtRising : Bool) : Device :=
  d.volatileReset.endReset reason supplyAtRising

/-- The memory of the cartridge that gained power in a slot while a reset lasted. -/
def poweredAt (l : ResetLines) (i : SlotNo) : Option CartridgeMemory :=
  match l.powered.find? fun p => decide (p.1 = i) with
  | none => none
  | some p => some p.2

/-- The lines and the cartridges that a reset finds at its end. -/
def Device.showLines (d : Device) (l : ResetLines) : Device :=
  d.updAll fun i s =>
    { s with
      presenceLow := l.presenceLow.getLsbD i.val
      serviceHigh := l.serviceHigh.getLsbD i.val
      cartridge := match poweredAt l i with | some m => some (Cartridge.powered m) | none => s.cartridge }

/-- R171: a power-on or RESET pin reset. -/
def Device.resetWith (d : Device) (reason : Reason) (l : ResetLines) : Device :=
  (d.showLines l).resetInPlace reason l.supplyAtRising

/-! ## The Store Queue at work (R131, R132, R60) -/

/-- The write that starts next: the CARRY write queued first, else the ORDINARY write queued first (R131). -/
def Store.nextWrite (st : Store) : Option QueuedWrite :=
  match st.queue.find? fun w => w.carry with
  | some w => some w
  | none => st.queue.head?

/-- A write is being made into the spare copy of its item, and until it commits no rule says what that copy holds
(R131; log entry 15). -/
def Store.unsettle (st : Store) (w : StoreWrite) : Store :=
  match w with
  | .entry p _ => { st with spareEntries := st.spareEntries.set p.val .unsettled p.isLt }
  | .header _ => { st with spareHeader := .unsettled }
  | .key _ => { st with spareKey := .unsettled }

/-- A write starts: it leaves the queue with its content fixed, and is written into the spare copy of its item (R131). -/
def Store.startWrite (st : Store) (w : QueuedWrite) (now : Tick) : Store :=
  { st.unsettle w.write with queue := st.queue.erase w, writing := some ⟨w.write, now, false⟩ }

/-- The content of a copy that becomes spare: blank where it has never been written. -/
def Spare.ofStored {α : Type} : Option α → Spare α
  | none => .blank
  | some x => .holds x

/-- A write commits: the spare copy of its item becomes the stored content, and the copy stored before becomes spare
(R131). -/
def Store.commit (st : Store) (w : StoreWrite) : Store :=
  match w with
  | .entry p e =>
    { st with
      entries := st.entries.set p.val (some e) p.isLt
      spareEntries := st.spareEntries.set p.val (Spare.ofStored (st.entries.get p)) p.isLt
      writing := none }
  | .header h => { st with header := some h, spareHeader := Spare.ofStored st.header, writing := none }
  | .key k => { st with key := some k, spareKey := Spare.ofStored st.key, writing := none }

/-- R60: what the Proof Unit does when the key item write has committed. -/
def Device.keyCommitted (d : Device) : Device :=
  match d.keyStore with
  | .storing k => ({ d with keyStore := .provisioned k }).raiseReason .historyKeysStored
  | .blank | .provisioned _ => d

/-- R60: what it does when that write has been dropped. -/
def Device.keyDropped (d : Device) : Device :=
  match d.keyStore with
  | .storing _ => ({ d with keyStore := .blank }).keysAbsentCheck
  | .blank | .provisioned _ => d

def StoreWrite.isKey : StoreWrite → Bool
  | .key _ => true
  | .entry _ _ | .header _ => false

/-- The read-back of a write agrees, and it commits (R131, R60). -/
def Device.writeCommits (d : Device) (w : WriteInProgress) : Device :=
  let d1 := { d with store := d.store.commit w.write }
  if w.write.isKey then d1.keyCommitted else d1

/-- The read-back does not agree: the write is repeated at once, or dropped with HISTORY WRITE after its repeat
(R132, R60). -/
def Device.writeDisagrees (d : Device) (w : WriteInProgress) : Device :=
  if w.repeating then
    let d1 := ({ d with store := { d.store with writing := none } }).raiseReason .historyWrite
    if w.write.isKey then d1.keyDropped else d1
  else { d with store := { d.store with writing := some ⟨w.write, d.tick, true⟩ } }

/-- Whether the 5 ms of a write have passed. -/
def WriteInProgress.due (w : WriteInProgress) (now : Tick) : Bool := decide (storeWriteMs ≤ elapsed now w.since)

end Sys2Proof.Machine
end

