-- ==== Sys2Proof/Machine/Replies.lean ====
section
/-! DEFINITION. The reply payloads of the links, byte by byte (sections 12.1 to 12.3, R158, R164, R165, R166). -/

namespace Sys2Proof.Machine

open Sys2Proof

/-! ## Codes (section 12.3) -/

def Result.code : Result → Byte
  | .ok => 0x00
  | .accepted => 0x01
  | .merged => 0x02
  | .late => 0x03
  | .notDraining => 0x04
  | .noCartridge => 0x05
  | .busy => 0x06
  | .locked => 0x07
  | .invalid => 0x08
  | .asleep => 0x09
  | .notPermitted => 0x0A
  | .unknown => 0x0B
  | .framing => 0x0C

def Answer.result : Answer → Result
  | .accepted => .accepted
  | .merged => .merged
  | .noCartridge => .noCartridge

def Admission.code : Admission → Byte
  | .vacant => 0
  | .settling => 1
  | .identifying => 2
  | .proving => 3
  | .admitted => 4
  | .rejected => 5
  | .mute => 6

def Verdict.code : Verdict → Byte
  | .none => 0
  | .proven => 1
  | .failed _ => 2

/-- The rejection reason, 0 while absent. -/
def Verdict.reasonCode : Verdict → Byte
  | .none | .proven => 0
  | .failed .badIdentity => 1
  | .failed .proofMismatch => 2

def Level.code (l : Level) : Byte := BitVec.ofNat 8 l.severity

def Gate.code : Gate → Byte
  | .opened => 0
  | .draining => 1
  | .shut => 2
  | .severed => 3

def Causes.toByte (c : Causes) : Byte :=
  BitVec.ofNat 8 (byteOfBits [c.vacant, c.pending, c.operator, c.rejected, c.suspect, c.dry, c.unreachable])

def Flags.toByte (f : Flags) : Byte :=
  BitVec.ofNat 8 (byteOfBits
    [f.rollback, f.sealFlag, f.reuse, f.swap, f.mismatch, f.marked, f.recorded, f.duplicate])

/-- The origins of an entry, with bit 7 the urgent flag (section 12.2). -/
def originsByte (o : Origins) (urgent : Bool) : Byte :=
  BitVec.ofNat 8 (byteOfBits [o.internal, o.system, o.engine, o.audit, o.attention, false, false, urgent])

def ServiceMode.code : ServiceMode → Byte
  | .off => 0
  | .stroke => 1
  | .valve => 2

def Polarity.code : Polarity → Byte
  | .risingOrHigh => 0
  | .fallingOrLow => 1

def ClosePolicy.code : ClosePolicy → Byte
  | .close => 0
  | .warn => 1

def DryPolicy.code : DryPolicy → Byte
  | .closeAtDry => 0
  | .closeAtSpent => 1
  | .never => 2

def Pattern.code : Pattern → Byte
  | .dark => 0
  | .greenSteady => 1
  | .amberSteady => 2
  | .redSteady => 3
  | .greenFlicker => 4
  | .redFast => 5
  | .amberFast => 6
  | .amberBlink => 7
  | .alternate => 8

def Override.code : Override → Byte
  | .auto => 0x10
  | .pattern p => p.code

def KeyStore.code : KeyStore → Byte
  | .blank => 0
  | .storing _ => 1
  | .provisioned _ => 2

def WorkKind.code : WorkKind → Byte
  | .identify => 1
  | .prove => 2
  | .debit => 3
  | .mark => 4
  | .poll => 5

def SeqOutcome.code : SeqOutcome → Byte
  | .done => 1
  | .applied => 2
  | .reconciled => 3
  | .mismatch => 4
  | .refused => 5
  | .failed => 6
  | .aborted => 7
  | .cancelled => 8

/-- The step reached, 0 while absent. -/
def stepCode : Option BusStep → Byte
  | none => 0
  | some .selected => 1
  | some .requestSent => 2
  | some .replyReceived => 3
  | some .checked => 4

/-! ## READ LEVELS -/

/-- A slot's entry of READ LEVELS: 13 bytes (section 12.1, R93, R164). -/
def levelsEntry (s : Slot) : List Byte :=
  [s.admission.code, s.verdict.code, s.gate.level.code, s.gate.gate.code,
    BitVec.ofNat 8 (byteOfBits [s.flags.any, s.meter.capacity.isNone])] ++
  beBytes 4 ((s.meter.remaining.getD 0).toNat) ++ beBytes 4 s.meter.overdraw

/-- READ LEVELS: eight entries, slot 0 first (R164). -/
def levelsPayload (d : Device) : List Byte := allSlots.flatMap fun i => levelsEntry (d.slot i)

/-! ## READ EVENTS -/

/-- An event entry: 3 bytes (section 12.1). -/
def eventEntryBytes (e : EventEntry) : List Byte :=
  [BitVec.ofNat 8 e.id.code,
    (match e.id with | .slot _ i => BitVec.ofNat 8 i.val | .device _ => e.reasons.setWidth 8),
    BitVec.ofNat 8 e.occurrences]

/-- The first `n` unmasked entries of a list, and the list without them (R149). -/
def takeUnmasked (mask : BitVec 16) : Nat → List EventEntry → List EventEntry × List EventEntry
  | 0, es => ([], es)
  | _ + 1, [] => ([], [])
  | n + 1, e :: es =>
    if maskedBy mask e then
      let r := takeUnmasked mask (n + 1) es
      (r.1, e :: r.2)
    else
      let r := takeUnmasked mask n es
      (e :: r.1, r.2)

/-- The most entries that one READ EVENTS returns (R149). -/
def maxRead : Nat := 12

/-- READ EVENTS on a link: the payload, and the link without the entries returned (R149, R166). -/
def Port.readEvents (p : Port) : List Byte × Port :=
  let r := takeUnmasked p.mask maxRead p.events
  let left := r.2.countP fun e => !maskedBy p.mask e
  (r.1.flatMap eventEntryBytes ++ [BitVec.ofNat 8 left], { p with events := r.2 })

/-! ## READ SLOT -/

/-- An identity as 20 bytes, 0 while absent (section 12.2). -/
def identityBytes : Option Identity → List Byte
  | none => List.replicate 20 0
  | some x => beBytes 8 x.serial.toNat ++ beBytes 2 x.inkCode.toNat ++ beBytes 1 x.generation.toNat ++
      beBytes 4 x.capacity ++ beBytes 4 x.used ++ [x.marks.toByte]

/-- A threshold setting: 0xFFFFFFFF for AUTO (section 12.2). -/
def Threshold.value : Threshold → Nat
  | .auto => max32
  | .absolute v => v

/-- The milliseconds left of a timer of `length` started at `start`. -/
def msLeft (now start : Tick) (length : Nat) : Nat := length - elapsed now start

/-- The milliseconds of grace left while the gate is DRAINING (R126). -/
def GateRecord.graceLeft (g : GateRecord) (now : Tick) : Nat :=
  match g.graceTimer with
  | none => 0
  | some t => msLeft now t.start t.length

/-- The milliseconds of LOCATE left while the locate timer runs (R156). -/
def LampRecord.locateLeft (l : LampRecord) (now : Tick) : Nat :=
  match l.locate with
  | none => 0
  | some t => msLeft now t locateMs

/-- Presence sets A and B (section 12.2). -/
def presenceA (s : Slot) : Byte :=
  BitVec.ofNat 8 (byteOfBits [s.debouncedLow, s.removedAt.isSome, s.identity.isSome, s.held.isSome, s.merged,
    s.lastProof.isSome, s.meter.inFlight.isSome, s.meter.uncertain.isSome])

def presenceB (s : Slot) : Byte :=
  BitVec.ofNat 8 (byteOfBits [s.meter.capacity.isSome, s.meter.refreshBase.isSome, s.meter.saturated, s.serviceHigh,
    s.gate.force, s.gate.accepted, s.lamp.held, s.lastSequence.isSome])

/-- Offsets 0 to 60: presence, admission, stamps, identities, proof, flags. -/
def slotHead (s : Slot) : List Byte :=
  [presenceA s, presenceB s, s.admission.code, s.insertion] ++
  beBytes 4 s.seatedAt.toNat ++ beBytes 4 (s.removedAt.getD 0).toNat ++
  identityBytes s.identity ++ identityBytes s.held ++
  [s.verdict.code, s.verdict.reasonCode] ++ beBytes 2 s.proofCount ++ beBytes 4 (s.lastProof.getD 0).toNat ++
  [s.flags.toByte]

/-- Offsets 61 to 114: the metering part. -/
def slotMeter (s : Slot) : List Byte :=
  let m := s.meter
  beBytes 4 m.residue ++ beBytes 4 m.pending ++ beBytes 4 (m.inFlight.getD 0) ++ beBytes 4 m.confirmed ++
  beBytes 4 m.posted ++ beBytes 4 m.carriedIn ++ beBytes 4 m.metered ++ beBytes 4 m.overdraw ++
  beBytes 4 (m.capacity.getD 0) ++ beBytes 4 ((m.uncertain.map Uncertain.expected).getD 0) ++
  beBytes 4 ((m.uncertain.map Uncertain.amount).getD 0) ++ beBytes 4 (m.refreshBase.getD 0) ++
  beBytes 4 s.orphanResidue ++ beBytes 2 s.orphanCount

/-- Offsets 115 to 137: the metering configuration. -/
def slotConfig (c : MeterConfig) : List Byte :=
  beBytes 2 c.fine ++ beBytes 2 c.normal ++ beBytes 2 c.coarse ++ [BitVec.ofInt 8 c.trim] ++
  beBytes 2 (effectiveWeight c.fine c.trim) ++ beBytes 2 (effectiveWeight c.normal c.trim) ++
  beBytes 2 (effectiveWeight c.coarse c.trim) ++
  [c.mode.code, c.polarity.code] ++ beBytes 2 c.stroke ++ beBytes 2 c.flow ++ beBytes 4 c.debitStep

/-- Offsets 138 to 166: the gate part. -/
def slotGate (g : GateRecord) (capacity : Option Nat) (now : Tick) : List Byte :=
  beBytes 4 g.low.value ++ beBytes 4 g.critical.value ++
  beBytes 4 ((capacity.map g.effectiveLow).getD 0) ++ beBytes 4 ((capacity.map g.effectiveCritical).getD 0) ++
  beBytes 2 g.reserve ++ beBytes 2 g.grace ++ [g.onRejected.code, g.onSuspicion.code, g.onDryness.code] ++
  [g.level.code, g.causes.toByte, g.gate.code] ++ beBytes 2 (g.graceLeft now) ++ beBytes 1 g.forcedCloses

/-- Offsets 167 to 176: the lamp part, the last sequence and the bus error count. -/
def slotTail (s : Slot) (now : Tick) : List Byte :=
  [s.lamp.shown.code, s.lamp.target.code, s.lamp.override.code] ++ beBytes 2 (s.lamp.locateLeft now) ++
  (match s.lastSequence with
    | none => [0, 0, 0, 0]
    | some q => [q.kind.code, q.outcome.code, stepCode q.step, BitVec.ofNat 8 q.attempts]) ++
  beBytes 1 s.busErrors

/-- A slot's Work List entry: 2 bytes (section 12.2). -/
def entryBytes (e : Entry) : List Byte :=
  match e.job with
  | .scan => []
  | .onSlot kind _ _ => [kind.code, originsByte e.origins e.urgent]

/-- The READ SLOT record of a slot (section 12.2). -/
def slotRecord (d : Device) (i : SlotNo) : List Byte :=
  let s := d.slot i
  let entries := d.work.filter fun e => e.isOn i
  slotHead s ++ slotMeter s ++ slotConfig s.config ++ slotGate s.gate s.meter.capacity d.tick ++ slotTail s d.tick ++
  [d.keyStore.code] ++ beBytes 1 d.auditPeriod ++ beBytes 4 d.auditElapsed ++
  beBytes 1 entries.length ++ entries.flatMap entryBytes

/-! ## READ HISTORY -/

/-- The write state of an entry place: 0 STORED, 1 QUEUED, 2 IN PROGRESS (R144). -/
def Store.writeState (st : Store) (p : Place) : Nat :=
  if st.queue.any fun w => decide (w.write.item = .entry p) then 1
  else
    match st.writing with
    | none => 0
    | some w => if w.write.item = .entry p then 2 else 0

/-- A place of the READ HISTORY reply: 38 bytes (section 12.2). -/
def placeBytes (st : Store) (p : Place) : List Byte :=
  match st.current p with
  | none => [BitVec.ofNat 8 p.val, BitVec.ofNat 8 (st.writeState p + 4)] ++ List.replicate 36 0
  | some e =>
    [BitVec.ofNat 8 p.val, BitVec.ofNat 8 (st.writeState p + if e.uncertain.isSome then 8 else 0)] ++
    beBytes 8 e.serial.toNat ++ beBytes 2 e.inkCode.toNat ++
    beBytes 4 e.capacity ++ beBytes 4 e.recordedUsed ++ beBytes 4 e.unposted ++
    beBytes 4 ((e.uncertain.map Uncertain.expected).getD 0) ++ beBytes 4 ((e.uncertain.map Uncertain.amount).getD 0) ++
    [e.flags.toByte] ++ beBytes 4 e.seen ++ beBytes 1 e.lastSlot.val

/-- The places reported: a range that passes place 31 ends there (R144). -/
def rangePlaces (first : Place) (count : Nat) : List Place :=
  allPlaces.filter fun p => decide (first.val ≤ p.val) && decide (p.val < first.val + count)

/-- The READ HISTORY payload (R144, section 12.2). A stored boot number that is absent is sent as 0. -/
def historyPayload (st : Store) (first : Place) (count : Nat) : List Byte :=
  beBytes 4 ((st.header.map Header.boot).getD 0).toNat ++ beBytes 4 st.workingSeen ++ beBytes 1 st.queue.length ++
  (rangePlaces first count).flatMap (placeBytes st)

/-! ## The reply as bytes on MISO (R158) -/

/-- A reply's bytes: result, command echo, length, payload (section 12.1). -/
def Reply.bytes (r : Reply) : List Byte := r.result.code :: r.echo :: BitVec.ofNat 8 r.payload.length :: r.payload

/-- What MISO shows while `n` bytes are clocked: the reply from its first byte, then fill bytes of 0 (R158). -/
def Reply.shiftOut (r : Reply) (n : Nat) : List Byte := (r.bytes ++ List.replicate n 0).take n

end Sys2Proof.Machine
end

