-- ==== Sys2Proof/Machine/Links.lean ====
section
/-! DEFINITION. Transactions on the two links and the judging of a command (R157 to R161), and the form in which every
meaning changes the state. -/

namespace Sys2Proof.Machine

open Sys2Proof

/-- How a meaning changes the machine: the device by the command's effect and by what ends every command (R46, R168);
the waiting commands stay. -/
def State.run (s : State) (f : Device → Device) : Host.Outcome State Fault Refusal :=
  .next { s with dev := (f s.dev).conclude }

/-- The port of a link. -/
def Device.port (d : Device) (l : Link) : Port :=
  match l with
  | .engine => d.engine
  | .system => d.system

/-- The device with the port of a link changed. -/
def Device.updPort (d : Device) (l : Link) (f : Port → Port) : Device :=
  match l with
  | .engine => { d with engine := f d.engine }
  | .system => { d with system := f d.system }

/-- A transaction in which `n` bytes are clocked shifts out the waiting reply (R158). -/
def Device.clockOut (d : Device) (l : Link) (n : Nat) : Device :=
  d.updPort l fun p => { p with shifted := p.reply.shiftOut n }

/-- The reply produced by the frame just received takes the place of the one that waited (R158). -/
def Device.answer (d : Device) (l : Link) (r : Result) (echo : Byte) (payload : List Byte) : Device :=
  d.updPort l fun p => { p with reply := ⟨r, echo, payload⟩ }

/-- What a taken command does: its result, its reply payload, and the device after it (R159, step 6). -/
structure Taken where
  result : Result
  payload : List Byte
  dev : Device

/-- A command whose reply carries no payload. -/
def taken (r : Result) (d : Device) : Taken := ⟨r, [], d⟩

/-- What distinguishes the commands in the judgement of R159: the code, the links that permit it (R160), whether it is
taken in STANDBY (R161), and its payload's checks with its effect. -/
structure Command (α : Type) where
  code : Byte
  onEngine : Bool
  onSystem : Bool
  inStandby : Bool
  read : List Byte → Option α
  act : Link → α → Device → Taken

def Command.permits {α : Type} (c : Command α) (l : Link) : Bool :=
  match l with
  | .engine => c.onEngine
  | .system => c.onSystem

/-- R159: a whole frame of a known command is judged, the first check that fails giving the reply; a frame whose length
is above 96 is discarded (R157). -/
def Command.judge {α : Type} (c : Command α) (f : Frame) (d : Device) : Device :=
  let d1 := d.clockOut f.link (2 + f.payload.length + f.padding)
  if maxPayload < f.payload.length then d1.answer f.link .framing c.code []
  else if d.resetCarry then d1.answer f.link .busy c.code []
  else if !c.permits f.link then d1.answer f.link .notPermitted c.code []
  else if d.power = .standby ∧ !c.inStandby then d1.answer f.link .asleep c.code []
  else
    match c.read f.payload with
    | none => d1.answer f.link .invalid c.code []
    | some a =>
      let t := c.act f.link a d1
      t.dev.answer f.link t.result c.code t.payload

/-- The meaning of a command's frame. -/
def Command.exec {α : Type} (c : Command α) (f : Frame) (s : State) : Host.Outcome State Fault Refusal :=
  s.run fun d => c.judge f d

/-- A command permitted on both links. -/
def bothLinks {α : Type} (code : Byte) (read : List Byte → Option α) (act : Link → α → Device → Taken) : Command α :=
  ⟨code, true, true, false, read, act⟩

/-- A command of the Engine Link. -/
def engineOnly {α : Type} (code : Byte) (inStandby : Bool) (read : List Byte → Option α)
    (act : Link → α → Device → Taken) : Command α :=
  ⟨code, true, false, inStandby, read, act⟩

/-- A command of the System Link. -/
def systemOnly {α : Type} (code : Byte) (inStandby : Bool) (read : List Byte → Option α)
    (act : Link → α → Device → Taken) : Command α :=
  ⟨code, false, true, inStandby, read, act⟩

end Sys2Proof.Machine
end

