-- ==== Sys2Proof/Machine/BusEvents.lean ====
section
/-! DEFINITION. The events of the supply bus: ATTENTION, GRANT, READY SIGNAL, REPLY RECEIVED, REPLY WINDOW EXPIRY, RETRY
SPACING EXPIRY, SCAN ENDS, SB_DAT LEVEL CHANGE. An event whose occasion does not hold changes nothing (log entry 3). -/

namespace Sys2Proof.Machine

open Sys2Proof

/-- R32: SB_DAT has been low for 200 µs on an idle bus: a SCAN is listed, and this low level is not counted again. -/
def Device.attention (d : Device) : Device :=
  if d.measure = .running then { d.askScan with measure := .counted } else d

def execAttention (s : State) : Host.Outcome State Fault Refusal := s.run fun d => d.attention

/-- R43: the arbiter grants the first eligible entry, where it may. -/
def Device.grant (d : Device) (claim : Claim) : Device :=
  if d.mayGrant then
    match d.nextEntry with
    | none => d
    | some e => d.grantEntry e claim
  else d

def execGrant (claim : Claim) (s : State) : Host.Outcome State Fault Refusal := s.run fun d => d.grant claim

/-- R21: the ready signal within the reply window. -/
def Device.readySignal (d : Device) : Device :=
  match d.seq with
  | none => d
  | some q =>
    match q.phase, q.job with
    | .waiting since, .onSlot kind _ _ =>
      if windowOpen d.tick since kind then { d with seq := some { q with phase := .receiving since } } else d
    | .waiting _, .scan | .claimed _, _ | .selecting _ _, _ | .sending _ _, _ | .receiving _, _ | .scanning _, _
    | .idle _, _ => d

def execReadySignal (s : State) : Host.Outcome State Fault Refusal := s.run fun d => d.readySignal

/-- The bytes of a reply as the device reads them; none where the cartridge sends none. -/
def Sequence.replyBytes (q : Sequence) : ReplyLine → Option (List Byte)
  | .asSent => q.prepared
  | .read bytes => some bytes

/-- R21, R22: the last bit of the reply has been read within the window. -/
def Device.replyReceived (d : Device) (reply : ReplyLine) (followOn : Claim) : Device :=
  match d.seq with
  | none => d
  | some q =>
    match q.phase, q.job with
    | .receiving since, .onSlot kind i insertion =>
      match q.replyBytes reply with
      | none => d
      | some bytes =>
        if bytes.length = replyLength kind ∧ windowOpen d.tick since kind then
          d.takeReply q kind i insertion bytes followOn
        else d
    | .receiving _, .scan | .claimed _, _ | .selecting _ _, _ | .sending _ _, _ | .waiting _, _ | .scanning _, _
    | .idle _, _ => d

def execReplyReceived (reply : ReplyLine) (followOn : Claim) (s : State) : Host.Outcome State Fault Refusal :=
  s.run fun d => d.replyReceived reply followOn

/-- R21: the reply window runs out: NO_REPLY, with step reached REQUEST SENT. -/
def Device.windowExpiry (d : Device) : Device :=
  match d.seq with
  | none => d
  | some q =>
    match q.phase, q.job with
    | .waiting since, .onSlot kind _ _ | .receiving since, .onSlot kind _ _ =>
      if windowOut d.tick since kind then d.failExchange { q with step := some .requestSent } else d
    | .waiting _, .scan | .receiving _, .scan | .claimed _, _ | .selecting _ _, _ | .sending _ _, _ | .scanning _, _
    | .idle _, _ => d

def execReplyWindowExpiry (s : State) : Host.Outcome State Fault Refusal := s.run fun d => d.windowExpiry

/-- R45: after 2 ms of idle bus, a further attempt starts. -/
def Device.spacingExpiry (d : Device) (claim : Claim) : Device :=
  match d.seq with
  | none => d
  | some q =>
    match q.phase with
    | .idle since => if spacingMs ≤ elapsed d.tick since then d.beginExchange q true claim else d
    | .claimed _ | .selecting _ _ | .sending _ _ | .waiting _ | .receiving _ | .scanning _ => d

def execRetrySpacingExpiry (claim : Claim) (s : State) : Host.Outcome State Fault Refusal :=
  s.run fun d => d.spacingExpiry claim

/-- The attention map of the answer periods; a slot that was not scanned shows a clear bit (R33). -/
def Device.answerMap (d : Device) (answers : AnswerLine) (scanned : BitVec 8) : BitVec 8 :=
  (match answers with | .asDriven => d.drivenMap | .read lows => lows) &&& scanned

/-- R33, R35: the eighth answer period is over. -/
def Device.scanEnds (d : Device) (answers : AnswerLine) : Device :=
  match d.seq with
  | none => d
  | some q =>
    match q.phase with
    | .scanning scanned => d.takeMap (d.answerMap answers scanned)
    | .claimed _ | .selecting _ _ | .sending _ _ | .waiting _ | .receiving _ | .idle _ => d

def execScanEnds (answers : AnswerLine) (s : State) : Host.Outcome State Fault Refusal :=
  s.run fun d => d.scanEnds answers

/-- The level of SB_DAT that an operand names: low under `asPulled` where a cartridge pulls it for attention (R30). -/
def Device.datLineLow (d : Device) (line : DatLine) : Bool :=
  match line with
  | .asPulled => allSlots.any d.pullsForAttention
  | .read low => low

/-- R32: SB_DAT takes another level on the idle bus, which starts or ends a measurement. -/
def Device.datLevel (d : Device) (low : Bool) : Device :=
  if d.busIdle ∧ d.datLow ≠ low then
    let d1 := { d with datLow := low }
    { d1 with measure := d1.measureFresh }
  else d

def execSbDatLevelChange (line : DatLine) (s : State) : Host.Outcome State Fault Refusal :=
  s.run fun d => d.datLevel (d.datLineLow line)

end Sys2Proof.Machine
end

