-- ==== Sys2Proof/Machine/ConfigCommands.lean ====
section
/-! DEFINITION. The commands of configuration: SET METERING, SET THRESHOLDS, SET POLICY, SET GRACE, SET WAKE MASK,
SET AUDIT, PROVISION KEYS. -/

namespace Sys2Proof.Machine

open Sys2Proof

/-- SET METERING writes a slot's metering configuration (R75). A write that ends a VALVE active period is taken as its
trailing edge (R79, R82). -/
def Device.setMetering (d : Device) (a : MeteringArgs) : Device :=
  let before := (d.slot a.slot).valveOpen
  let d1 := d.updSlot a.slot fun s => { s with config := a.config }
  if before && !(d1.slot a.slot).valveOpen then d1.valveTrails a.slot else d1

def setMeteringCommand : Command MeteringArgs :=
  systemOnly codeSetMetering false readMetering fun _ a d => taken .ok (d.setMetering a)

def execSetMetering (f : Frame) (s : State) : Host.Outcome State Fault Refusal := setMeteringCommand.exec f s

/-- SET THRESHOLDS writes a slot's settings and reserve, and reclassifies it if its account is open (R112, R114). -/
def Device.setThresholds (d : Device) (a : ThresholdArgs) : Device :=
  (d.updGate a.slot fun g => { g with low := a.low, critical := a.critical, reserve := a.reserve }).handOn a.slot

def setThresholdsCommand : Command ThresholdArgs :=
  systemOnly codeSetThresholds false readThresholds fun _ a d => taken .ok (d.setThresholds a)

def execSetThresholds (f : Frame) (s : State) : Host.Outcome State Fault Refusal := setThresholdsCommand.exec f s

/-- SET POLICY writes a slot's three policies and recomputes its cause set (R116). -/
def Device.setPolicy (d : Device) (a : PolicyArgs) : Device :=
  (d.updGate a.slot fun g =>
    { g with onRejected := a.onRejected, onSuspicion := a.onSuspicion, onDryness := a.onDryness }).recompute false a.slot

def setPolicyCommand : Command PolicyArgs :=
  systemOnly codeSetPolicy false readPolicy fun _ a d => taken .ok (d.setPolicy a)

def execSetPolicy (f : Frame) (s : State) : Host.Outcome State Fault Refusal := setPolicyCommand.exec f s

/-- SET GRACE writes a slot's grace; a running grace timer keeps its length (R119). -/
def setGraceCommand : Command GraceArgs :=
  systemOnly codeSetGrace false readGrace fun _ a d => taken .ok (d.updGate a.slot fun g => { g with grace := a.grace })

def execSetGrace (f : Frame) (s : State) : Host.Outcome State Fault Refusal := setGraceCommand.exec f s

/-- SET WAKE MASK replaces the wake-enable mask (R15). -/
def setWakeMaskCommand : Command Byte :=
  systemOnly codeSetWakeMask false readByte fun _ m d => taken .ok { d with wakeMask := m }

def execSetWakeMask (f : Frame) (s : State) : Host.Outcome State Fault Refusal := setWakeMaskCommand.exec f s

/-- SET AUDIT sets the audit period and restarts the audit timer (R71). -/
def setAuditCommand : Command Nat :=
  systemOnly codeSetAudit false readPeriod fun _ p d => taken .ok { d with auditPeriod := p, auditElapsed := 0 }

def execSetAudit (f : Frame) (s : State) : Host.Outcome State Fault Refusal := setAuditCommand.exec f s

/-- PROVISION KEYS stages a key while the key store is BLANK and queues its write as ORDINARY; otherwise LOCKED
(R59). -/
def Device.provisionKeys (d : Device) (k : Key) : Taken :=
  match d.keyStore with
  | .blank => taken .accepted { d with keyStore := .storing k, store := d.store.enqueue (.key k) false }
  | .storing _ | .provisioned _ => taken .locked d

def provisionKeysCommand : Command Key :=
  systemOnly codeProvisionKeys false readKey fun _ k d => d.provisionKeys k

def execProvisionKeys (f : Frame) (s : State) : Host.Outcome State Fault Refusal := provisionKeysCommand.exec f s

end Sys2Proof.Machine
end

