-- ==== Sys2Proof/Machine/MeterEvents.lean ====
section
/-! DEFINITION. The events of the service lines and of the Time Base: STROKE, VALVE MILLISECOND, TRAILING EDGE, SERVICE
LINE LEVEL, TICK COUNT ADVANCE, LAMP FRAME BOUNDARY, AUDIT EXPIRY. An event whose occasion does not hold changes nothing
(log entry 3). -/

namespace Sys2Proof.Machine

open Sys2Proof

/-- R80: the active edge of a line in STROKE mode. -/
def Device.stroke (d : Device) (i : SlotNo) : Device :=
  let s := d.slot i
  if s.config.mode = .stroke ∧ !s.lineActive then
    (d.updSlot i fun s => { s with serviceHigh := s.config.polarity.active }).addInk i
      (s.config.stroke * quantaPerNanolitre) false
  else d

def execStroke (i : SlotNo) (s : State) : Host.Outcome State Fault Refusal := s.run fun d => d.stroke i

/-- R81: an advance of the tick count at an active VALVE line is taken as one accumulation (log entry 5). -/
def Device.valveMillisecond (d : Device) (i : SlotNo) : Device :=
  let s := d.slot i
  if 0 < s.valveDue then
    let d1 := d.updSlot i fun s => { s with valveDue := s.valveDue - 1 }
    if s.config.mode = .valve then d1.addInk i (s.config.flow * quantaPerNanolitre) false else d1
  else d

def execValveMillisecond (i : SlotNo) (s : State) : Host.Outcome State Fault Refusal :=
  s.run fun d => d.valveMillisecond i

/-- R82: the end of a VALVE active period. -/
def Device.trailingEdge (d : Device) (i : SlotNo) : Device :=
  if (d.slot i).valveOpen then
    (d.updSlot i fun s => { s with serviceHigh := !s.config.polarity.active }).valveTrails i
  else d

def execTrailingEdge (i : SlotNo) (s : State) : Host.Outcome State Fault Refusal := s.run fun d => d.trailingEdge i

/-- Whether the edge of a slot's service line to a level is a stroke or a trailing edge (R80, R82). -/
def Slot.edgeCounts (s : Slot) (high : Bool) : Bool :=
  match s.config.mode with
  | .off => false
  | .stroke => decide (high = s.config.polarity.active)
  | .valve => decide (high ≠ s.config.polarity.active)

/-- R79: any other edge only updates the service-line level. -/
def Device.serviceLevel (d : Device) (i : SlotNo) (high : Bool) : Device :=
  let s := d.slot i
  if s.serviceHigh ≠ high ∧ !s.edgeCounts high then d.updSlot i fun s => { s with serviceHigh := high } else d

def execServiceLineLevel (i : SlotNo) (high : Bool) (s : State) : Host.Outcome State Fault Refusal :=
  s.run fun d => d.serviceLevel i high

/-- The audit limit in milliseconds (R69). -/
def Device.auditLimit (d : Device) : Nat := d.auditPeriod * msPerMinute

/-- The audit elapsed time after a millisecond: it advances in RUN, with a period above 0, and waits at its limit for
the expiry to be taken (R69; log entry 5). -/
def Device.auditAdvance (d : Device) : Nat :=
  if d.power = .run ∧ 0 < d.auditPeriod then min d.auditLimit (d.auditElapsed + 1) else d.auditElapsed

/-- A slot at a tick advance: an active VALVE line owes a millisecond (R81). -/
def Slot.tickAdvance (s : Slot) : Slot := if s.valveOpen then { s with valveDue := s.valveDue + 1 } else s

/-- R1, R2, R69: a millisecond passes. On an idle bus SB_CLK has then rested low for a millisecond (R30), and a request
under way is sent to its end (log entry 4). -/
def Device.tickAdvance (d : Device) : Device :=
  let phase := d.framePhase + 1
  let d1 := { d with
    tick := d.tick + 1
    framePhase := if frameMs ≤ phase then 0 else phase
    boundaryDue := d.boundaryDue || decide (frameMs ≤ phase)
    auditElapsed := d.auditAdvance
    clockRested := d.busIdle }
  (d1.updAll fun _ s => s.tickAdvance).requestEnds

def execTickCountAdvance (s : State) : Host.Outcome State Fault Refusal := s.run fun d => d.tickAdvance

/-- A held change is shown at a lamp frame boundary (R154). -/
def LampRecord.boundary (l : LampRecord) : LampRecord :=
  if l.held then { l with shown := l.target, held := false } else l

/-- R154: a lamp frame boundary. -/
def Device.frameBoundary (d : Device) : Device :=
  if d.boundaryDue then
    ({ d with boundaryDue := false }).updAll fun _ s => { s with lamp := s.lamp.boundary }
  else d

def execLampFrameBoundary (s : State) : Host.Outcome State Fault Refusal := s.run fun d => d.frameBoundary

/-- Whether the audit has expired (R69). -/
def Device.auditDue (d : Device) : Bool := decide (0 < d.auditPeriod) && decide (d.auditLimit ≤ d.auditElapsed)

/-- R70: a PROVE and then a POLL with origin AUDIT for a slot that is ADMITTED with verdict PROVEN. -/
def Device.auditSlot (d : Device) (i : SlotNo) : Device :=
  if (d.slot i).admission = .admitted ∧ (d.slot i).verdict = .proven then
    (d.ask .prove i Origins.ofAudit).ask .poll i Origins.ofAudit
  else d

/-- R70: the audit expires, and the timer reloads. -/
def Device.auditExpiry (d : Device) : Device :=
  if d.auditDue then allSlots.foldl Device.auditSlot { d with auditElapsed := 0 } else d

def execAuditExpiry (s : State) : Host.Outcome State Fault Refusal := s.run fun d => d.auditExpiry

end Sys2Proof.Machine
end

