-- ==== Sys2Proof/Machine/ReadCommands.lean ====
section
/-! DEFINITION. NOP, the reading commands, SET MASK, and the frames that are no command: NOP, READ LEVELS, READ EVENTS,
READ SLOT, READ HISTORY, SET MASK, FRAMING, UNKNOWN. -/

namespace Sys2Proof.Machine

open Sys2Proof

/-- NOP leaves the empty reply (R158). -/
def nopCommand : Command Unit := bothLinks codeNop readNone fun _ _ d => taken .ok d

def execNop (f : Frame) (s : State) : Host.Outcome State Fault Refusal := nopCommand.exec f s

/-- READ LEVELS (R164). -/
def readLevelsCommand : Command Unit := bothLinks codeReadLevels readNone fun _ _ d => ⟨.ok, levelsPayload d, d⟩

def execReadLevels (f : Frame) (s : State) : Host.Outcome State Fault Refusal := readLevelsCommand.exec f s

/-- READ EVENTS returns and removes up to 12 unmasked entries of the link's list (R149). -/
def readEventsCommand : Command Unit :=
  bothLinks codeReadEvents readNone fun l _ d =>
    ⟨.ok, (d.port l).readEvents.1, d.updPort l fun p => p.readEvents.2⟩

def execReadEvents (f : Frame) (s : State) : Host.Outcome State Fault Refusal := readEventsCommand.exec f s

/-- SET MASK replaces the link's mask (R148). -/
def setMaskCommand : Command (BitVec 16) :=
  bothLinks codeSetMask readMask fun l m d => taken .ok (d.updPort l fun p => { p with mask := m })

def execSetMask (f : Frame) (s : State) : Host.Outcome State Fault Refusal := setMaskCommand.exec f s

/-- The two counts that READ SLOT clears after its view has been taken (R165). -/
def Slot.clearCounts (s : Slot) : Slot := { s with busErrors := 0, orphanCount := 0 }

/-- READ SLOT (R165). -/
def readSlotCommand : Command SlotNo :=
  systemOnly codeReadSlot false readSlotNo fun _ i d => ⟨.ok, slotRecord d i, d.updSlot i Slot.clearCounts⟩

def execReadSlot (f : Frame) (s : State) : Host.Outcome State Fault Refusal := readSlotCommand.exec f s

/-- READ HISTORY (R144). -/
def readHistoryCommand : Command HistoryRange :=
  systemOnly codeReadHistory false readRange fun _ r d => ⟨.ok, historyPayload d.store r.first r.count, d⟩

def execReadHistory (f : Frame) (s : State) : Host.Outcome State Fault Refusal := readHistoryCommand.exec f s

/-- A discarded frame leaves a FRAMING reply that echoes the first byte received, or the code of NOP (R157). -/
def Device.discard (d : Device) (l : Link) (received : List Byte) : Device :=
  (d.clockOut l received.length).answer l .framing (received.headD codeNop) []

/-- FRAMING (R157). Bytes that make a whole frame are no occasion for it. -/
def execFraming (l : Link) (received : List Byte) (s : State) : Host.Outcome State Fault Refusal :=
  if discardedFrame received then s.run fun d => d.discard l received else .refused .illFormed

/-- A whole frame whose code is no command's: BUSY during a RESET PART carry, else UNKNOWN (R159, steps 1 and 2). -/
def Device.refuseUnknown (d : Device) (code : Byte) (f : Frame) : Device :=
  let d1 := d.clockOut f.link (2 + f.payload.length + f.padding)
  let r : Result :=
    if maxPayload < f.payload.length then .framing else if d.resetCarry then .busy else .unknown
  d1.answer f.link r code []

/-- UNKNOWN (R159). The code of a command is no occasion for it. -/
def execUnknown (code : Byte) (f : Frame) (s : State) : Host.Outcome State Fault Refusal :=
  if commandCodes.contains code then .refused .illFormed else s.run fun d => d.refuseUnknown code f

end Sys2Proof.Machine
end

