-- ==== Sys2Proof/Machine/OperatorCommands.lean ====
section
/-! DEFINITION. The commands of printing and of the operator, and those of the power state: FLUSH, JET TALLY, GATE ACK,
CHECK SLOT, FORCE GATE, ACCEPT SUSPECT, LAMP, STANDBY, WAKE, RESET PART. -/

namespace Sys2Proof.Machine

open Sys2Proof

/-! ## FLUSH (R96) -/

/-- The origin of a link's FLUSH. -/
def flushOrigin : Link → Origins
  | .engine => Origins.ofEngine
  | .system => Origins.ofSystem

/-- A DEBIT is requested for each slot in turn; the answers, in order (R96). -/
def Device.flushSlots (d : Device) (origins : Origins) : List SlotNo → List Result × Device
  | [] => ([], d)
  | i :: is =>
    let (answer, d1) := d.request .debit i origins Wanted.empty
    let (answers, d2) := d1.flushSlots origins is
    (answer.result :: answers, d2)

def flushCommand : Command Byte :=
  bothLinks codeFlush readByte fun l set d =>
    let (answers, d1) := d.flushSlots (flushOrigin l) (slotsOfSet set)
    ⟨.ok, answers.map Result.code, d1⟩

def execFlush (f : Frame) (s : State) : Host.Outcome State Fault Refusal := flushCommand.exec f s

/-! ## JET TALLY (R76 to R78) -/

/-- A tally record is taken whole, with the effective weights in force; one whose slot is above 7 is skipped (R76). -/
def Device.takeTally (d : Device) (r : TallyRecord) : Device :=
  match slotOfByte r.slot with
  | none => d
  | some i => d.addInk i (tallyQuanta (d.slot i).config r.fine r.normal r.coarse) true

/-- The number of records taken, and the set of the positions skipped (R76). -/
def tallyReply (rs : List TallyRecord) : List Byte :=
  let skipped := rs.map fun r => (slotOfByte r.slot).isNone
  [BitVec.ofNat 8 (skipped.countP fun b => !b), BitVec.ofNat 8 (byteOfBits skipped)]

/-- A READ LEVELS or READ SLOT is judged on the System Link while a tally is being taken (R93). -/
def Device.takeRead (d : Device) (r : TallyRead) : Device :=
  match r.command with
  | .levels => readLevelsCommand.judge r.frame d
  | .slot => readSlotCommand.judge r.frame d

/-- The records in order, each taken whole, when `k` have been taken before them; the reads that come after `k` records
see the effect of those and not of the next (R76, R93). -/
def Device.takeTallies (d : Device) (reads : List TallyRead) (k : Nat) : List TallyRecord → Device
  | [] => d
  | r :: rs =>
    (((reads.filter fun x => x.after == k).foldl Device.takeRead d).takeTally r).takeTallies reads (k + 1) rs

/-- JET TALLY: a wake cause in WINDING DOWN and STANDBY, acted on before the records (R76, R169). `reads` are the reads of
the System Link between the records; a tally that is refused takes none (R93; log entry 39). -/
def jetTallyCommand (reads : List TallyRead) : Command (List TallyRecord) :=
  engineOnly codeJetTally true readTally fun _ rs d =>
    ⟨.ok, tallyReply rs, (d.wakeCause .wokenTally).takeTallies reads 0 rs⟩

def execJetTally (t : Tally) (s : State) : Host.Outcome State Fault Refusal :=
  (jetTallyCommand t.reads).exec t.frame s

/-! ## GATE ACK (R123) -/

/-- A slot is acknowledged by its own gate state (R123). -/
def Device.ackSlot (d : Device) (i : SlotNo) : Result × Device :=
  match (d.slot i).gate.gate with
  | .draining => (.ok, (d.setGate false i .shut none).lampUpdate i)
  | .shut => (.ok, d)
  | .severed => (.late, d)
  | .opened => (.notDraining, d)

/-- The positions in order; one that names a slot above 7 is answered INVALID (R123). -/
def Device.ackSlots (d : Device) : List Byte → List Result × Device
  | [] => ([], d)
  | b :: bs =>
    let (answer, d1) :=
      match slotOfByte b with
      | none => (Result.invalid, d)
      | some i => d.ackSlot i
    let (answers, d2) := d1.ackSlots bs
    (answer :: answers, d2)

def gateAckCommand : Command (List Byte) :=
  engineOnly codeGateAck false readAcks fun _ bs d =>
    let (answers, d1) := d.ackSlots bs
    ⟨.ok, answers.map Result.code, d1⟩

def execGateAck (f : Frame) (s : State) : Host.Outcome State Fault Refusal := gateAckCommand.exec f s

/-! ## CHECK SLOT (R13) -/

/-- The System origin joins the listed entry of a kind, or the sequence in flight of that kind on the slot if the entry
has been granted (R13). -/
def Device.joinSystem (d : Device) (kind : WorkKind) (i : SlotNo) : Device :=
  match d.findEntry kind i with
  | some _ => d.mapEntry kind i fun e => { e with origins := e.origins.union Origins.ofSystem }
  | none =>
    match d.seq with
    | none => d
    | some q =>
      match q.job with
      | .scan => d
      | .onSlot k j _ =>
        if k = kind ∧ j = i then { d with seq := some { q with origins := q.origins.union Origins.ofSystem } } else d

/-- CHECK SLOT on an ADMITTED slot with verdict PROVEN: a PROVE and a POLL with the System origin (R13). -/
def Device.checkProven (d : Device) (i : SlotNo) : Taken :=
  let (prove, d1) := d.request .prove i Origins.ofSystem Wanted.empty
  let (poll, d2) := d1.request .poll i Origins.ofSystem Wanted.empty
  taken (if prove = .merged ∧ poll = .merged then .merged else .accepted) d2

/-- CHECK SLOT: by the admission state; in every state but VACANT it first resumes suspended attention sensing
(R13, R36; log entry 9). -/
def Device.checkSlot (d : Device) (i : SlotNo) : Taken :=
  let s := d.slot i
  match s.admission with
  | .vacant => taken .noCartridge d
  | .settling => taken .busy d.resumeSensing
  | .identifying => taken .merged (d.resumeSensing.joinSystem .identify i)
  | .proving => taken .merged (d.resumeSensing.joinSystem .prove i)
  | .admitted =>
    if s.verdict = .proven then d.resumeSensing.checkProven i
    else taken .accepted (d.resumeSensing.recheck i Origins.ofSystem)
  | .rejected | .mute => taken .accepted (d.resumeSensing.recheck i Origins.ofSystem)

def checkSlotCommand : Command SlotNo :=
  systemOnly codeCheckSlot false readSlotNo fun _ i d => d.checkSlot i

def execCheckSlot (f : Frame) (s : State) : Host.Outcome State Fault Refusal := checkSlotCommand.exec f s

/-! ## FORCE GATE, ACCEPT SUSPECT, LAMP -/

/-- FORCE GATE sets or clears the operator force; its gate change raises no GATE (R124, R122). -/
def Device.forceGate (d : Device) (a : ForceArgs) : Device :=
  (d.updGate a.slot fun g => { g with force := a.close }).recompute true a.slot

def forceGateCommand : Command ForceArgs :=
  systemOnly codeForceGate false readForce fun _ a d => taken .ok (d.forceGate a)

def execForceGate (f : Frame) (s : State) : Host.Outcome State Fault Refusal := forceGateCommand.exec f s

/-- ACCEPT SUSPECT sets the accepted-suspect flag; NO_CARTRIDGE for a VACANT slot (R125). -/
def Device.acceptSuspect (d : Device) (i : SlotNo) : Taken :=
  if (d.slot i).admission = .vacant then taken .noCartridge d
  else taken .ok ((d.updGate i fun g => { g with accepted := true }).recompute false i)

def acceptSuspectCommand : Command SlotNo :=
  systemOnly codeAcceptSuspect false readSlotNo fun _ i d => d.acceptSuspect i

def execAcceptSuspect (f : Frame) (s : State) : Host.Outcome State Fault Refusal := acceptSuspectCommand.exec f s

/-- LAMP sets a slot's override (R155). -/
def Device.setLamp (d : Device) (a : LampArgs) : Device :=
  match a.setting with
  | .auto => d.lampOverride a.slot .auto none
  | .locate => d.lampOverride a.slot (.pattern .amberFast) (some d.tick)
  | .pattern p => d.lampOverride a.slot (.pattern p) none

def lampCommand : Command LampArgs := systemOnly codeLamp false readLamp fun _ a d => taken .ok (d.setLamp a)

def execLamp (f : Frame) (s : State) : Host.Outcome State Fault Refusal := lampCommand.exec f s

/-! ## STANDBY, WAKE, RESET PART -/

/-- STANDBY: winding down begins in RUN; BUSY in WINDING DOWN (R167). In STANDBY it is ASLEEP before this. -/
def Device.standbyOrder (d : Device) : Taken :=
  match d.power with
  | .run => taken .accepted d.beginWindingDown
  | .windingDown | .standby => taken .busy d

def standbyCommand : Command Unit := systemOnly codeStandby false readNone fun _ _ d => d.standbyOrder

def execStandby (f : Frame) (s : State) : Host.Outcome State Fault Refusal := standbyCommand.exec f s

/-- WAKE returns the device to RUN (R169). -/
def wakeCommand : Command Unit :=
  systemOnly codeWake true readNone fun _ _ d => taken .ok (d.wakeCause .wokenCommand)

def execWake (f : Frame) (s : State) : Host.Outcome State Fault Refusal := wakeCommand.exec f s

/-- RESET PART: winding down ends without WOKEN, the reset carries are queued, and the carry begins (R172, R143). -/
def Device.resetPart (d : Device) : Device :=
  let d1 := if d.power = .windingDown then d.stopWindingDown else d
  { d1.writeAll true with resetCarry := true }

def resetPartCommand : Command Unit :=
  systemOnly codeResetPart false readNone fun _ _ d => taken .accepted d.resetPart

def execResetPart (f : Frame) (s : State) : Host.Outcome State Fault Refusal := resetPartCommand.exec f s

end Sys2Proof.Machine
end

