-- ==== Sys2Proof/Machine/SlotEvents.lean ====
section
/-! DEFINITION. The events of the presence lines, the slot timers and the resets: FALLING EDGE, RISING EDGE, SETTLE
EXPIRY, REMOVAL EXPIRY, LOCATE EXPIRY, GRACE EXPIRY, POWER ON, RESET PIN, RESET PART ACTS, SEAL SENSE BROKEN. An event
whose occasion does not hold changes nothing (log entry 3). -/

namespace Sys2Proof.Machine

open Sys2Proof

/-- What a falling edge does to the slot's line and contacts: the line is low, and a cartridge that gains power has its
attention items clear (R27). -/
def Slot.lineFalls (s : Slot) (c : Option CartridgeMemory) : Slot :=
  { s with
    presenceLow := true
    cartridge := match c with | some m => some (Cartridge.powered m) | none => s.cartridge }

/-- A falling edge on a watched slot: an insertion starts on a VACANT slot (R5), a settle restarts (R6), and a running
removal timer of a seated slot stops (R7). -/
def Device.edgeFalls (d : Device) (i : SlotNo) : Device :=
  let s := d.slot i
  match s.admission with
  | .vacant => (d.presenceChange i).startSettling i
  | .settling => d.updSlot i fun s => { s with settleTimer := some d.tick, removalTimer := none }
  | .identifying | .proving | .admitted | .rejected | .mute => d.updSlot i fun s => { s with removalTimer := none }

/-- What an exchange in progress has of a slot's cartridge, once another one stands in its place: the newcomer has no
request carried out and no reply prepared, and reads no request whole that was begun before it (R27). -/
def Sequence.newPartner (q : Sequence) (i : SlotNo) : Sequence :=
  { q with
    prepared := match q.job with | .scan => q.prepared | .onSlot _ j _ => if j = i then none else q.prepared
    phase := match q.phase with
      | .sending whole selected => .sending (whole &&& ~~~setOfSlots fun j => decide (j = i)) selected
      | .claimed _ | .selecting _ _ | .waiting _ | .receiving _ | .scanning _ | .idle _ => q.phase }

/-- The cartridge that a falling edge brings, if it brings one, meets the exchange in progress. -/
def Device.newPartner (d : Device) (i : SlotNo) (c : Option CartridgeMemory) : Device :=
  match c with
  | none => d
  | some _ => { d with seq := d.seq.map fun q => q.newPartner i }

/-- A falling edge: from high to low (section 1.3). A frozen slot's edges are not acted on (R15). -/
def Device.fallingEdge (d : Device) (i : SlotNo) (c : Option CartridgeMemory) : Device :=
  if (d.slot i).presenceLow then d
  else
    let d1 := (d.updSlot i fun s => s.lineFalls c).newPartner i c
    if d.frozen i then d1 else d1.edgeFalls i

def execFallingEdge (i : SlotNo) (c : Option CartridgeMemory) (s : State) : Host.Outcome State Fault Refusal :=
  s.run fun d => d.fallingEdge i c

/-- A rising edge on a watched slot: nothing on a VACANT slot (R5); the removal timer starts, and a settle timer stops
(R6, R7). -/
def Slot.edgeRises (s : Slot) (now : Tick) : Slot :=
  match s.admission with
  | .vacant => s
  | .settling | .identifying | .proving | .admitted | .rejected | .mute =>
    { s with settleTimer := none, removalTimer := some now }

/-- A rising edge: from low to high. -/
def Device.risingEdge (d : Device) (i : SlotNo) : Device :=
  if (d.slot i).presenceLow then
    let d1 := d.updSlot i fun s => { s with presenceLow := false }
    if d.frozen i then d1 else d1.updSlot i fun s => s.edgeRises d.tick
  else d

def execRisingEdge (i : SlotNo) (s : State) : Host.Outcome State Fault Refusal := s.run fun d => d.risingEdge i

/-- The settle timer expires (R6). -/
def Device.settleExpires (d : Device) (i : SlotNo) : Device :=
  let d1 := d.updSlot i fun s => { s with settleTimer := none, debouncedLow := true }
  (d1.setAdmission i .identifying).ask .identify i Origins.ofInternal

def Device.settleExpiry (d : Device) (i : SlotNo) : Device :=
  if timerDue d.tick (d.slot i).settleTimer settleMs ∧ (d.slot i).admission = .settling then d.settleExpires i else d

def execSettleExpiry (i : SlotNo) (s : State) : Host.Outcome State Fault Refusal := s.run fun d => d.settleExpiry i

/-- The removal timer expires: a settle is abandoned (R6), or the removal of a seated slot is confirmed (R7, R8), which
is a presence change (R169). -/
def Device.removalExpires (d : Device) (i : SlotNo) : Device :=
  if (d.slot i).admission = .settling then d.abandonSettle i
  else if (d.slot i).admission.seated then (d.presenceChange i).removal i
  else d

def Device.removalExpiry (d : Device) (i : SlotNo) : Device :=
  if timerDue d.tick (d.slot i).removalTimer removalMs then d.removalExpires i else d

def execRemovalExpiry (i : SlotNo) (s : State) : Host.Outcome State Fault Refusal := s.run fun d => d.removalExpiry i

/-- The locate timer expires: the override becomes AUTO (R155). -/
def Device.locateExpiry (d : Device) (i : SlotNo) : Device :=
  if timerDue d.tick (d.slot i).lamp.locate locateMs then d.lampOverride i .auto none else d

def execLocateExpiry (i : SlotNo) (s : State) : Host.Outcome State Fault Refusal := s.run fun d => d.locateExpiry i

/-- Whether the grace timer of a DRAINING gate has expired (R120). -/
def GateRecord.graceDue (g : GateRecord) (now : Tick) : Bool :=
  decide (g.gate = .draining) &&
    (match g.graceTimer with | none => false | some t => decide (t.length ≤ elapsed now t.start))

/-- The grace timer expires (R120). -/
def Device.graceExpiry (d : Device) (i : SlotNo) : Device :=
  if (d.slot i).gate.graceDue d.tick then (d.graceExpires i).lampUpdate i else d

def execGraceExpiry (i : SlotNo) (s : State) : Host.Outcome State Fault Refusal := s.run fun d => d.graceExpiry i

/-- R171: a power-on reset. -/
def execPowerOn (l : ResetLines) (s : State) : Host.Outcome State Fault Refusal :=
  s.run fun d => d.resetWith .resetPowerOn l

/-- R171: a reset by the RESETn pin. -/
def execResetPin (l : ResetLines) (s : State) : Host.Outcome State Fault Refusal :=
  s.run fun d => d.resetWith .resetPin l

/-- R172, step 4: with the Store Queue empty and no sequence in flight, the reset acts. -/
def Device.resetPartActs (d : Device) (supplyAtRising : Bool) : Device :=
  if d.resetReady then d.resetInPlace .resetCommand supplyAtRising else d

def execResetPartActs (supplyAtRising : Bool) (s : State) : Host.Outcome State Fault Refusal :=
  s.run fun d => d.resetPartActs supplyAtRising

/-- R30: the seal sense of the cartridge in a slot goes from INTACT to BROKEN. -/
def execSealSenseBroken (i : SlotNo) (s : State) : Host.Outcome State Fault Refusal :=
  s.run fun d => d.updSlot i fun s => { s with cartridge := s.cartridge.map Cartridge.breakSeal }

end Sys2Proof.Machine
end

