-- ==== Sys2Proof/Machine/SystemEvents.lean ====
section
/-! DEFINITION. The events of the supply, the Store Queue and the power state: SUPPLY LOW, SUPPLY NORMAL, STORE WRITE
START, STORE WRITE COMPLETE, ENTER STANDBY. An event whose occasion does not hold changes nothing (log entry 3). -/

namespace Sys2Proof.Machine

open Sys2Proof

/-- The entry into LOW is a wake cause in STANDBY alone (R169). -/
def Device.wakeOnLow (d : Device) : Device :=
  match d.power with
  | .standby => d.leaveStandby .wokenSupply
  | .run | .windingDown => d

/-- R170: the supply falls below the falling threshold: SUPPLY LOW, and a supply-low carry for every carried slot
(R142). -/
def Device.supplyFalls (d : Device) : Device :=
  match d.supply with
  | .low => d
  | .normal => (({ d.wakeOnLow with supply := .low }).raiseReason .supplyLow).writeAll true

def execSupplyLow (s : State) : Host.Outcome State Fault Refusal := s.run fun d => d.supplyFalls

/-- R170: the supply rises to the rising threshold. -/
def Device.supplyRises (d : Device) : Device :=
  match d.supply with
  | .normal => d
  | .low => ({ d with supply := .normal }).raiseReason .supplyNormal

def execSupplyNormal (s : State) : Host.Outcome State Fault Refusal := s.run fun d => d.supplyRises

/-- R131: with no write in progress, the next write starts. -/
def Device.storeStart (d : Device) : Device :=
  match d.store.writing, d.store.nextWrite with
  | none, some w => { d with store := d.store.startWrite w d.tick }
  | none, none => d
  | some _, _ => d

def execStoreWriteStart (s : State) : Host.Outcome State Fault Refusal := s.run fun d => d.storeStart

/-- R131, R132: a write's 5 ms are over, and it is read back. -/
def Device.storeComplete (d : Device) (agrees : Bool) : Device :=
  match d.store.writing with
  | none => d
  | some w =>
    if w.due d.tick then (if agrees then d.writeCommits w else d.writeDisagrees w) else d

def execStoreWriteComplete (agrees : Bool) (s : State) : Host.Outcome State Fault Refusal :=
  s.run fun d => d.storeComplete agrees

/-- R168: when ready holds, the device enters STANDBY. -/
def execEnterStandby (s : State) : Host.Outcome State Fault Refusal :=
  s.run fun d => if d.ready then d.enterStandby else d

end Sys2Proof.Machine
end

