-- ==== Sys2Proof/Machine/Dispatch.lean ====
section
/-! DEFINITION. The meaning of every command, one arm per constructor of `Instr`. -/

namespace Sys2Proof.Machine

open Sys2Proof

def exec (i : Instr) (s : State) : Host.Outcome State Fault Refusal :=
  match i with
  | .nop f => Sys2Proof.Machine.execNop f s
  | .readLevels f => Sys2Proof.Machine.execReadLevels f s
  | .readEvents f => Sys2Proof.Machine.execReadEvents f s
  | .setMask f => Sys2Proof.Machine.execSetMask f s
  | .flush f => Sys2Proof.Machine.execFlush f s
  | .jetTally t => Sys2Proof.Machine.execJetTally t s
  | .gateAck f => Sys2Proof.Machine.execGateAck f s
  | .readSlot f => Sys2Proof.Machine.execReadSlot f s
  | .readHistory f => Sys2Proof.Machine.execReadHistory f s
  | .setMetering f => Sys2Proof.Machine.execSetMetering f s
  | .setThresholds f => Sys2Proof.Machine.execSetThresholds f s
  | .setPolicy f => Sys2Proof.Machine.execSetPolicy f s
  | .setGrace f => Sys2Proof.Machine.execSetGrace f s
  | .checkSlot f => Sys2Proof.Machine.execCheckSlot f s
  | .forceGate f => Sys2Proof.Machine.execForceGate f s
  | .acceptSuspect f => Sys2Proof.Machine.execAcceptSuspect f s
  | .lamp f => Sys2Proof.Machine.execLamp f s
  | .setWakeMask f => Sys2Proof.Machine.execSetWakeMask f s
  | .setAudit f => Sys2Proof.Machine.execSetAudit f s
  | .provisionKeys f => Sys2Proof.Machine.execProvisionKeys f s
  | .standby f => Sys2Proof.Machine.execStandby f s
  | .wake f => Sys2Proof.Machine.execWake f s
  | .resetPart f => Sys2Proof.Machine.execResetPart f s
  | .framing l received => Sys2Proof.Machine.execFraming l received s
  | .unknown code f => Sys2Proof.Machine.execUnknown code f s
  | .powerOn l => Sys2Proof.Machine.execPowerOn l s
  | .resetPin l => Sys2Proof.Machine.execResetPin l s
  | .fallingEdge k c => Sys2Proof.Machine.execFallingEdge k c s
  | .risingEdge k => Sys2Proof.Machine.execRisingEdge k s
  | .settleExpiry k => Sys2Proof.Machine.execSettleExpiry k s
  | .removalExpiry k => Sys2Proof.Machine.execRemovalExpiry k s
  | .supplyLow => Sys2Proof.Machine.execSupplyLow s
  | .supplyNormal => Sys2Proof.Machine.execSupplyNormal s
  | .stroke k => Sys2Proof.Machine.execStroke k s
  | .valveMillisecond k => Sys2Proof.Machine.execValveMillisecond k s
  | .trailingEdge k => Sys2Proof.Machine.execTrailingEdge k s
  | .serviceLineLevel k high => Sys2Proof.Machine.execServiceLineLevel k high s
  | .auditExpiry => Sys2Proof.Machine.execAuditExpiry s
  | .lampFrameBoundary => Sys2Proof.Machine.execLampFrameBoundary s
  | .locateExpiry k => Sys2Proof.Machine.execLocateExpiry k s
  | .graceExpiry k => Sys2Proof.Machine.execGraceExpiry k s
  | .attention => Sys2Proof.Machine.execAttention s
  | .grant claim => Sys2Proof.Machine.execGrant claim s
  | .readySignal => Sys2Proof.Machine.execReadySignal s
  | .replyReceived reply followOn => Sys2Proof.Machine.execReplyReceived reply followOn s
  | .replyWindowExpiry => Sys2Proof.Machine.execReplyWindowExpiry s
  | .retrySpacingExpiry claim => Sys2Proof.Machine.execRetrySpacingExpiry claim s
  | .scanEnds answers => Sys2Proof.Machine.execScanEnds answers s
  | .storeWriteStart => Sys2Proof.Machine.execStoreWriteStart s
  | .storeWriteComplete agrees => Sys2Proof.Machine.execStoreWriteComplete agrees s
  | .resetPartActs supplyAtRising => Sys2Proof.Machine.execResetPartActs supplyAtRising s
  | .enterStandby => Sys2Proof.Machine.execEnterStandby s
  | .tickCountAdvance => Sys2Proof.Machine.execTickCountAdvance s
  | .sealSenseBroken k => Sys2Proof.Machine.execSealSenseBroken k s
  | .sbDatLevelChange line => Sys2Proof.Machine.execSbDatLevelChange line s

end Sys2Proof.Machine
end

