-- ==== Sys2Proof/Safety.lean ====
section
/-! DEFINITION. What the claims are made of: how a command completes, what it leaves alone, and the properties that every
step keeps. -/

namespace Sys2Proof.Safety

open Sys2Proof Sys2Proof.Machine

/-! ## Completing -/

/-- From `s` the command completes: `exec` answers a next state in which the waiting commands stand as they stood. Its
device is `d'`, of which `P` holds, after what ends every command (R46, R168): outside WINDING DOWN that is nothing. -/
def Completes (c : Instr) (s : State) (P : Device → Prop) : Prop :=
  ∃ d' : Device, exec c s = .next { s with dev := d'.conclude } ∧ P d'

/-- The links take commands: the device is not in STANDBY and no RESET PART carry is in progress (R161). -/
def Takes (d : Device) : Prop := d.power ≠ .standby ∧ d.resetCarry = false

/-- The bytes of the transaction that carries a whole frame. -/
def clocked (f : Frame) : Nat := 2 + f.payload.length + f.padding

/-- The byte that numbers a slot. -/
def slotByte (i : SlotNo) : Byte := BitVec.ofNat 8 i.val

/-- The link `l` holds the reply with the result, the echoed code and the payload, and the reply that waited before has
been shifted out over the transaction of `n` bytes (R158). -/
def Replies (d d' : Device) (l : Link) (n : Nat) (result : Result) (echo : Byte) (payload : List Byte) : Prop :=
  (d'.port l).reply = ⟨result, echo, payload⟩ ∧ (d'.port l).shifted = (d.port l).reply.shiftOut n

/-- The device `d'` with the reply and the MISO bytes that the link `l` had in `d`: what is left of `d'` once the traffic
of the transaction is taken out. -/
def quiet (d d' : Device) (l : Link) : Device :=
  d'.updPort l fun p => { p with reply := (d.port l).reply, shifted := (d.port l).shifted }

/-- A frame is answered with a result alone and changes nothing. -/
def OnlyAnswers (d d' : Device) (f : Frame) (result : Result) (echo : Byte) : Prop :=
  Replies d d' f.link (clocked f) result echo [] ∧ quiet d d' f.link = d

/-- Every slot but `i` has the record it had. -/
def OtherSlots (d d' : Device) (i : SlotNo) : Prop := ∀ j, j ≠ i → d'.slot j = d.slot j

/-- Outside the record of slot `i` the device is as it was. -/
def OnlySlot (d d' : Device) (i : SlotNo) : Prop := { d' with slots := d.slots } = d ∧ OtherSlots d d' i

/-- Outside the record of slot `i` and the two event lists the device is as it was. -/
def OnlySlotAndEvents (d d' : Device) (i : SlotNo) : Prop :=
  { d' with
    slots := d.slots
    engine := { d'.engine with events := d.engine.events }
    system := { d'.system with events := d.system.events } } = d ∧ OtherSlots d d' i

/-- Whether a list holds an event of the kind, and slot, of `id`. -/
def holds (p : Port) (id : EventId) : Bool := p.events.any fun e => decide (e.id = id)

/-- The event lists are as they were. -/
def SameEvents (d d' : Device) : Prop := d'.engine.events = d.engine.events ∧ d'.system.events = d.system.events

/-- One event has been raised, and no other: each list it is routed to has taken one delivery (R145). -/
def RaisesOnly (d d' : Device) (id : EventId) (reasons : BitVec 4) : Prop :=
  d'.system.events = deliver id reasons d.system.events ∧
    d'.engine.events = if id.toEngine then deliver id reasons d.engine.events else d.engine.events

/-- The sequence in flight is an exchange of a kind on a slot that is receiving its reply within its window, under the
slot's current insertion number. -/
def Receiving (d : Device) (q : Sequence) (kind : WorkKind) (i : SlotNo) : Prop :=
  d.seq = some q ∧ q.job = .onSlot kind i (d.slot i).insertion ∧
    ∃ since, q.phase = .receiving since ∧ elapsed d.tick since ≤ replyWindow kind

/-- The sequence has ended with an outcome, and the slot's last sequence shows it with step CHECKED. -/
def Ended (d' : Device) (q : Sequence) (kind : WorkKind) (i : SlotNo) (outcome : SeqOutcome) : Prop :=
  d'.seq = none ∧ (d'.slot i).lastSequence = some ⟨kind, outcome, some .checked, q.attempts⟩

/-- The metering fields of a slot but for the refresh base, which every write of the history entry changes (R94). -/
def account (s : Slot) : Meter := { s.meter with refreshBase := none }

/-- The `n` bytes of a payload from an offset on. -/
def field (payload : List Byte) (offset n : Nat) : List Byte := (payload.drop offset).take n

/-- Whether HISTORY stands in a device's System list with the reason of a bit (R147). -/
def HistoryReason (d : Device) (bit : Nat) : Prop :=
  ∃ x ∈ d.system.events, x.id = .device .history ∧ x.reasons.getLsbD bit = true

/-! ## The two long records (section 12.2) -/

/-- An identity as 20 bytes, zeros while it is absent. -/
def identityField : Option Identity → List Byte
  | none => List.replicate 20 0
  | some x => beBytes 8 x.serial.toNat ++ beBytes 2 x.inkCode.toNat ++ beBytes 1 x.generation.toNat ++
      beBytes 4 x.capacity ++ beBytes 4 x.used ++ [x.marks.toByte]

/-- R72, R74, R93, R94, R126, R156, R165: the READ SLOT record of slot `i`, offset by offset as section 12.2 places it. -/
structure SlotReport (d : Device) (i : SlotNo) (b : List Byte) : Prop where
  length : b.length = 184 + 2 * (d.work.filter fun e => e.isOn i).length
  presenceA :
    let a := b.getD 0 0
    (a.getLsbD 0 = (d.slot i).debouncedLow ∧ a.getLsbD 1 = (d.slot i).removedAt.isSome) ∧
    (a.getLsbD 2 = (d.slot i).identity.isSome ∧ a.getLsbD 3 = (d.slot i).held.isSome) ∧
    (a.getLsbD 4 = (d.slot i).merged ∧ a.getLsbD 5 = (d.slot i).lastProof.isSome) ∧
    (a.getLsbD 6 = (d.slot i).meter.inFlight.isSome ∧ a.getLsbD 7 = (d.slot i).meter.uncertain.isSome)
  presenceB :
    let a := b.getD 1 0
    (a.getLsbD 0 = (d.slot i).meter.capacity.isSome ∧ a.getLsbD 1 = (d.slot i).meter.refreshBase.isSome) ∧
    (a.getLsbD 2 = (d.slot i).meter.saturated ∧ a.getLsbD 3 = (d.slot i).serviceHigh) ∧
    (a.getLsbD 4 = (d.slot i).gate.force ∧ a.getLsbD 5 = (d.slot i).gate.accepted) ∧
    (a.getLsbD 6 = (d.slot i).lamp.held ∧ a.getLsbD 7 = (d.slot i).lastSequence.isSome)
  admission : field b 2 2 = [(d.slot i).admission.code, (d.slot i).insertion]
  stamps : field b 4 8 = beBytes 4 (d.slot i).seatedAt.toNat ++ beBytes 4 ((d.slot i).removedAt.getD 0).toNat
  identity : field b 12 20 = identityField (d.slot i).identity
  held : field b 32 20 = identityField (d.slot i).held
  proof : field b 52 8 = [(d.slot i).verdict.code, (d.slot i).verdict.reasonCode] ++ beBytes 2 (d.slot i).proofCount ++
    beBytes 4 ((d.slot i).lastProof.getD 0).toNat
  flags : field b 60 1 = [(d.slot i).flags.toByte]
  ink : field b 61 32 =
    beBytes 4 (d.slot i).meter.residue ++ beBytes 4 (d.slot i).meter.pending ++
    beBytes 4 ((d.slot i).meter.inFlight.getD 0) ++ beBytes 4 (d.slot i).meter.confirmed ++
    beBytes 4 (d.slot i).meter.posted ++ beBytes 4 (d.slot i).meter.carriedIn ++
    beBytes 4 (d.slot i).meter.metered ++
    beBytes 4 (match (d.slot i).meter.remaining with | none => 0 | some r => min 4294967295 (-r).toNat)
  writeBack : field b 93 16 =
    beBytes 4 ((d.slot i).meter.capacity.getD 0) ++
    beBytes 4 (match (d.slot i).meter.uncertain with | none => 0 | some u => u.expected) ++
    beBytes 4 (match (d.slot i).meter.uncertain with | none => 0 | some u => u.amount) ++
    beBytes 4 ((d.slot i).meter.refreshBase.getD 0)
  orphan : field b 109 6 = beBytes 4 (d.slot i).orphanResidue ++ beBytes 2 (d.slot i).orphanCount
  weights :
    let c := (d.slot i).config
    let weight (nominal : Nat) : Nat := max 1 (min 16383 (((nominal : Int) * (1024 + c.trim) + 512) / 1024).toNat)
    field b 115 13 = beBytes 2 c.fine ++ beBytes 2 c.normal ++ beBytes 2 c.coarse ++ [BitVec.ofInt 8 c.trim] ++
      beBytes 2 (weight c.fine) ++ beBytes 2 (weight c.normal) ++ beBytes 2 (weight c.coarse)
  service : field b 128 10 = [(d.slot i).config.mode.code, (d.slot i).config.polarity.code] ++
    beBytes 2 (d.slot i).config.stroke ++ beBytes 2 (d.slot i).config.flow ++ beBytes 4 (d.slot i).config.debitStep
  thresholds :
    let g := (d.slot i).gate
    let setting (t : Threshold) : List Byte := match t with | .auto => [0xFF, 0xFF, 0xFF, 0xFF] | .absolute v => beBytes 4 v
    field b 138 16 = setting g.low ++ setting g.critical ++
      (match (d.slot i).meter.capacity with
        | none => beBytes 4 0 ++ beBytes 4 0
        | some c => beBytes 4 (g.effectiveLow c) ++ beBytes 4 (g.effectiveCritical c))
  policies : field b 154 7 = beBytes 2 (d.slot i).gate.reserve ++ beBytes 2 (d.slot i).gate.grace ++
    [(d.slot i).gate.onRejected.code, (d.slot i).gate.onSuspicion.code, (d.slot i).gate.onDryness.code]
  gate : field b 161 6 =
    [(d.slot i).gate.level.code, (d.slot i).gate.causes.toByte, (d.slot i).gate.gate.code] ++
    beBytes 2 (match (d.slot i).gate.graceTimer with | none => 0 | some t => t.length - elapsed d.tick t.start) ++
    beBytes 1 (d.slot i).gate.forcedCloses
  lamp : field b 167 5 =
    [(d.slot i).lamp.shown.code, (d.slot i).lamp.target.code, (d.slot i).lamp.override.code] ++
    beBytes 2 (match (d.slot i).lamp.locate with | none => 0 | some t => 5000 - elapsed d.tick t)
  lastSequence : field b 172 4 =
    match (d.slot i).lastSequence with
    | none => [0, 0, 0, 0]
    | some q => [q.kind.code, q.outcome.code, stepCode q.step, BitVec.ofNat 8 q.attempts]
  tail : field b 176 7 = beBytes 1 (d.slot i).busErrors ++ [d.keyStore.code] ++ beBytes 1 d.auditPeriod ++
    beBytes 4 d.auditElapsed
  entries : b.drop 183 = beBytes 1 (d.work.filter fun e => e.isOn i).length ++
    (d.work.filter fun e => e.isOn i).flatMap fun e =>
      match e.job with
      | .scan => []
      | .onSlot kind _ _ => [kind.code, originsByte e.origins e.urgent]

/-- R144: the 38 bytes that READ HISTORY reports of a place, as section 12.2 lays them out. -/
structure PlaceReport (st : Store) (p : Place) (b : List Byte) : Prop where
  place : b.getD 0 0 = BitVec.ofNat 8 p.val
  state : (b.getD 1 0).toNat =
    (if ∃ w ∈ st.queue, w.write.item = .entry p then 1
      else if st.writing.map (fun w => w.write.item) = some (.entry p) then 2 else 0) +
    (match st.current p with
      | none => 4
      | some e => if e.uncertain = none then 0 else 8)
  blank : st.current p = none → b.drop 2 = List.replicate 36 0
  entry : ∀ e, st.current p = some e → b.drop 2 =
    beBytes 8 e.serial.toNat ++ beBytes 2 e.inkCode.toNat ++ beBytes 4 e.capacity ++ beBytes 4 e.recordedUsed ++
    beBytes 4 e.unposted ++ (match e.uncertain with
      | none => beBytes 4 0 ++ beBytes 4 0
      | some u => beBytes 4 u.expected ++ beBytes 4 u.amount) ++
    [e.flags.toByte] ++ beBytes 4 e.seen ++ beBytes 1 e.lastSlot.val

/-! ## Writes of the history (R134 to R136, R139) -/

/-- R134: an entry of the serial is protected. -/
def Protected (d : Device) (serial : BitVec 64) : Prop :=
  ∃ j : SlotNo, (d.slot j).merged = true ∧ (d.slot j).holdsSerial serial = true

/-- The tier of R135 that an entry is a candidate of. -/
def evictionTier (e : HistoryEntry) : Nat := if e.unposted ≠ 0 then 3 else if e.flags.any then 2 else 1

/-- R135: where a write of an entry for a serial goes, and whether it evicts unposted ink: to the serial's own place, else
to the lowest blank place, else to the place of the entry that is evicted, which no candidate comes before by tier, seen
number and place. Of two places that hold the serial, the lower is its own (log entry 38). -/
def Placed (d : Device) (serial : BitVec 64) (p : Place) (loss : Bool) : Prop :=
  ((∃ e, d.store.current p = some e ∧ e.serial = serial) ∧
    (∀ q, q < p → ∀ e, d.store.current q = some e → e.serial ≠ serial) ∧ loss = false) ∨
  ((∀ q e, d.store.current q = some e → e.serial ≠ serial) ∧
    ((d.store.current p = none ∧ (∀ q, q < p → d.store.current q ≠ none) ∧ loss = false) ∨
      ((∀ q, d.store.current q ≠ none) ∧
        ∃ e, d.store.current p = some e ∧ ¬Protected d e.serial ∧ loss = decide (0 < e.unposted) ∧
          ∀ q x, d.store.current q = some x → ¬Protected d x.serial → q ≠ p →
            evictionTier e < evictionTier x ∨
              (evictionTier e = evictionTier x ∧ (e.seen < x.seen ∨ (e.seen = x.seen ∧ p < q))))))

/-- R136: the content `e` of a write of slot `i`'s history entry under the identity `id`, drawn from the slot records of
`d`. `old` is the entry that the serial had, and `seen` the seen number to write. The capacity of a slot without an
account is log entry 28. -/
structure Written (d : Device) (i : SlotNo) (id : Identity) (old : Option HistoryEntry) (seen : Nat) (e : HistoryEntry) :
    Prop where
  serial : e.serial = id.serial
  inkCode : e.inkCode = id.inkCode
  capacity : e.capacity = (d.slot i).meter.capacity.getD id.capacity
  recordedUsed : ∀ j, j = i ∨ ((d.slot j).merged = true ∧ (d.slot j).holdsSerial id.serial = true) →
    e.recordedUsed ≤ (d.slot j).meter.confirmed
  recordedFrom : ∃ j, (j = i ∨ ((d.slot j).merged = true ∧ (d.slot j).holdsSerial id.serial = true)) ∧
    e.recordedUsed = (d.slot j).meter.confirmed
  unposted : e.unposted = min 4294967295 ((d.slot i).meter.pending + (d.slot i).meter.inFlight.getD 0)
  uncertain : e.uncertain =
    (d.slot i).meter.uncertain.or ((d.slot i).meter.inFlight.map fun a => ⟨(d.slot i).meter.confirmed, a⟩)
  flags : e.flags = ((old.map HistoryEntry.flags).getD Flags.empty).union (d.slot i).flags
  seen : e.seen = seen
  lastSlot : e.lastSlot = i

/-- R130, R135, R136, R94: between `d` and `d'` a write of slot `i`'s history entry has been queued, as CARRY where
`carry` says so, with the slot records of `a` as its source and `seen` as the new seen number of a merge. Where it evicts
unposted ink, HISTORY holds LOSS. -/
def Queues (d a d' : Device) (i : SlotNo) (carry : Bool) (seen : Option Nat) : Prop :=
  ∀ id, (a.slot i).writtenIdentity = some id → ∀ p loss, Placed d id.serial p loss →
    (∃ w ∈ d'.store.queue, (carry = true → w.carry = true) ∧ ∃ e, w.write = .entry p e ∧
      ((d'.slot i).admission ≠ .vacant → (d'.slot i).insertion = (d.slot i).insertion →
        (d'.slot i).meter.refreshBase = some e.recordedUsed) ∧
      Written a i id ((d.store.current p).filter fun x => decide (x.serial = id.serial))
        (seen.getD ((((d.store.current p).filter fun x => decide (x.serial = id.serial)).map HistoryEntry.seen).getD
          d.store.workingSeen)) e) ∧
    (loss = true → HistoryReason d' 2)

/-- R139: flags have been newly set on slot `i`: SUSPECT is raised, and on a slot whose verdict was PROVEN the history
entry is written again and, where `written` says that one of the flags is neither MARKED nor RECORDED, a MARK with
SUSPECT is listed. -/
def Suspected (d d' : Device) (i : SlotNo) (written : Bool) : Prop :=
  holds d'.system (.slot .suspect i) = true ∧
    ((d.slot i).verdict = .proven →
      Queues d d' d' i false none ∧
      (written = true → (d'.slot i).knownMarks.suspect = false → (d.slot i).admission ≠ .vacant →
        ∃ e, d'.findEntry .mark i = some e ∧ e.wanted.suspect = true))

/-- R137, steps 6 to 8, and R138, steps 4 and 5: what an admission merge does once the account and the flags stand. `new`
says that it has newly set a flag. -/
structure Merges (d d' : Device) (i : SlotNo) (new : Prop) : Prop where
  seen : d'.store.workingSeen = min 4294967295 (d.store.workingSeen + 1)
  header : ∃ w ∈ d'.store.queue, w.write = .header ⟨d.bootNumber, d'.store.workingSeen⟩
  entry : Queues d d' d' i false (some d'.store.workingSeen)
  level : (d'.slot i).gate.level = levelOf (d'.slot i).meter (d'.slot i).gate
  suspect : new → holds d'.system (.slot .suspect i) = true
  mark : (d'.slot i).flags.anyWritten = true → (d'.slot i).knownMarks.suspect = false →
    ∃ e, d'.findEntry .mark i = some e ∧ e.wanted.suspect = true

/-! ## Ink (R83, R87, R95) -/

/-- Whether a DEBIT request for the slot is listed, and not declined or cancelled (R42). -/
def Debitable (s : Slot) : Prop :=
  s.flags.rollback = false ∧ s.flags.mismatch = false ∧ (0 < s.meter.pending ∨ s.meter.uncertain ≠ none)

/-- R95: the class has become CRITICAL, DRY or SPENT and is more severe than before. -/
def Worsens (before after : Level) : Prop :=
  (after = .critical ∨ after = .dry ∨ after = .spent) ∧ before.severity < after.severity

/-- R83, R87, R90, R95: an addition of quanta to slot `i`, which is not VACANT, and what it is handed on to. -/
structure Accumulates (d d' : Device) (i : SlotNo) (quanta : Nat) : Prop where
  account : account (d'.slot i) =
    { account (d.slot i) with
      residue := ((d.slot i).meter.residue + quanta) % 16000000
      metered := min 4294967295 ((d.slot i).meter.metered + ((d.slot i).meter.residue + quanta) / 16000000)
      pending := min 4294967295 ((d.slot i).meter.pending + ((d.slot i).meter.residue + quanta) / 16000000)
      saturated := (d.slot i).meter.saturated ||
        decide (4294967295 < (d.slot i).meter.metered + ((d.slot i).meter.residue + quanta) / 16000000) ||
        decide (4294967295 < (d.slot i).meter.pending + ((d.slot i).meter.residue + quanta) / 16000000) }
  admission : (d'.slot i).admission = (d.slot i).admission ∧ (d'.slot i).verdict = (d.slot i).verdict ∧
    (d'.slot i).flags = (d.slot i).flags ∧ (d'.slot i).orphanCount = (d.slot i).orphanCount
  others : OtherSlots d d' i
  level : (d'.slot i).gate.level = levelOf (d'.slot i).meter (d.slot i).gate
  change : (d'.slot i).gate.level ≠ (d.slot i).gate.level →
    holds d'.system (.slot .level i) = true ∧ holds d'.engine (.slot .level i) = true ∧
      (d'.slot i).gate.causes = causesOf (d'.slot i)
  debit : Debitable (d'.slot i) →
    (0 < ((d.slot i).meter.residue + quanta) / 16000000 ∧ (d.slot i).config.debitStep ≤ (d'.slot i).meter.pending) ∨
      Worsens (d.slot i).gate.level (d'.slot i).gate.level →
    ∃ e, d'.findEntry .debit i = some e ∧ e.origins.internal = true
  quiet : Debitable (d'.slot i) →
    ¬((0 < ((d.slot i).meter.residue + quanta) / 16000000 ∧ (d.slot i).config.debitStep ≤ (d'.slot i).meter.pending) ∨
      Worsens (d.slot i).gate.level (d'.slot i).gate.level) → d'.work = d.work
  carry : d.supply = .low ∨ d.resetCarry = true → (d.slot i).merged = true → Queues d d' d' i true none

/-! ## Exchanges (R19, R20, R25, R27, R33, R45) -/

/-- R20, section 12.4: the request packet of an exchange of a kind. -/
def packetOf (q : Sequence) (kind : WorkKind) : List Byte :=
  withCrc (match kind with
    | .identify => [0x51]
    | .prove => 0x52 :: (match q.proveHold with
      | none => []
      | some h => beBytes 4 h.nonceHigh.toNat ++ beBytes 4 h.nonceLow.toNat)
    | .debit => 0x53 :: (beBytes 4 q.expected ++ beBytes 4 q.amount)
    | .mark => [0x54, q.marksSent.toMarks.toByte]
    | .poll => [0x55])

/-- R20, R27: the request of an exchange on slot `i` has been sent to its end. A cartridge that receives it whole carries it
out and prepares its reply; else the cartridge is as it was, and no reply is prepared. -/
structure Sent (d d' : Device) (q : Sequence) (kind : WorkKind) (i : SlotNo) (whole : Bool) : Prop where
  stands : d'.seq = some q ∧ q.step = some .requestSent ∧ q.phase = .waiting d'.tick
  heard : ∀ c, (d.slot i).cartridge = some c → whole = true → ∀ x, c.receive (packetOf q kind) = some x →
    (d'.slot i).cartridge = some x.1 ∧ q.prepared = some x.2
  deaf : (∀ c, (d.slot i).cartridge = some c → whole = true → c.receive (packetOf q kind) = none) →
    (d'.slot i).cartridge = (d.slot i).cartridge ∧ q.prepared = none
  others : ∀ j, j ≠ i → (d'.slot j).cartridge = (d.slot j).cartridge

/-- R33: the scan request has been sent to its end to the slots of `scanned`. Each of them whose cartridge receives it
whole has attention signalled, and no other cartridge is changed. -/
structure ScanSent (d d' : Device) (q : Sequence) (scanned whole : BitVec 8) : Prop where
  stands : d'.seq = some q ∧ q.step = some .requestSent ∧ q.phase = .scanning scanned
  heard : ∀ i : SlotNo, (d'.slot i).cartridge =
    if scanned.getLsbD i.val = true ∧ whole.getLsbD i.val = true then
      (d.slot i).cartridge.map fun c => { c with attentionSignalled := true }
    else (d.slot i).cartridge

/-- R44, R62 to R65: what the Proof Unit holds with a PROVE exchange of slot `i` under the insertion number `n`. -/
structure Challenges (d : Device) (i : SlotNo) (n : BitVec 8) (km : Key) (id : Identity) (h : ProveHold) : Prop where
  nonce : (⟨h.nonceHigh, h.nonceLow⟩ : DigestState) =
    digest km [d.bootNumber, d.nonceCount, BitVec.ofNat 32 (i.val * 256 + n.toNat), 3]
  key : h.cartridgeKey = cartridgeKey km id.serial id.inkCode id.generation
  used : h.used = if (d.slot i).admission = .proving then id.used else (d.slot i).meter.confirmed
  capacity : h.capacity = id.capacity
  printerMarks : h.printerMarks = (if id.marks.exhausted then 1 else 0) + (if id.marks.suspect then 2 else 0)

/-- R19, R33: the select lines that the exchange or scan of `q` asserts. -/
def Selects (d : Device) (q : Sequence) (selected : BitVec 8) : Prop := ∀ j : SlotNo, selected.getLsbD j.val =
  (match q.job with | .scan => (d.slot j).identity.isSome | .onSlot _ i _ => decide (j = i))

/-- R18, R19, R24, R33 (log entry 4): the exchange or scan of `q` stands between its claim and the end of its request, and no
cartridge has been changed. -/
structure UnderWay (d d' : Device) (q : Sequence) (claim : Claim) : Prop where
  stands : d'.seq = some q ∧ q.prepared = none ∧ ∀ i, (d'.slot i).cartridge = (d.slot i).cartridge
  claimed : ∀ whole, claim = .claimed whole → q.phase = .claimed whole
  selecting : ∀ whole, claim = .selecting whole → q.step = some .selected ∧
    ∃ selected, q.phase = .selecting whole selected ∧ Selects d q selected
  sending : ∀ whole, claim = .sending whole → q.step = some .selected ∧
    ∃ selected, q.phase = .sending whole selected ∧ Selects d q selected

/-- R45: the exchange or scan of `q` has begun on the idle bus and found SB_DAT high, and stands where `claim` says. -/
structure Begins (d d' : Device) (q : Sequence) (claim : Claim) : Prop where
  lines : d'.measure = .stopped ∧ d'.datLow = false ∧ d'.clockRested = false
  underWay : (∀ whole, claim ≠ .sent whole) → UnderWay d d' q claim
  exchange : ∀ whole kind i n, claim = .sent whole → q.job = .onSlot kind i n → Sent d d' q kind i (whole.getLsbD i.val)
  scan : ∀ whole, claim = .sent whole → q.job = .scan → ScanSent d d' q d.identified8 whole

/-- R25, R45, R103, R104, R12: an exchange of `q` on slot `i` has failed with a step reached. Below three attempts the bus
idles before a further one; at three the sequence ends FAILED, the in-flight amount of a DEBIT returns to pending with its
record kept, and a seated slot becomes MUTE. -/
structure ExchangeFails (d d' : Device) (q : Sequence) (kind : WorkKind) (i : SlotNo) (n : BitVec 8) (step : BusStep) :
    Prop where
  slot : (d'.slot i).busErrors = min 255 ((d.slot i).busErrors + 1) ∧ (d'.slot i).verdict = (d.slot i).verdict ∧
    (d'.slot i).identity = (d.slot i).identity ∧ (d'.slot i).flags = (d.slot i).flags
  others : OtherSlots d d' i
  idle : d'.clockRested = false
  again : q.attempts < 3 →
    d'.seq = some { q with step := some step, phase := .idle d.tick, prepared := none, proveHold := none } ∧
    d'.work = d.work ∧ SameEvents d d' ∧ (d'.slot i).admission = (d.slot i).admission ∧
    (d'.slot i).meter =
      if kind = .debit ∧ n = (d.slot i).insertion then
        { (d.slot i).meter with uncertain := some ((d.slot i).meter.uncertain.getD ⟨q.expected, q.amount⟩) }
      else (d.slot i).meter
  ended : 3 ≤ q.attempts → d'.seq = none ∧ (q.origins.system = true → holds d'.system (.slot .done i) = true)
  stale : 3 ≤ q.attempts → n ≠ (d.slot i).insertion →
    (d'.slot i).admission = (d.slot i).admission ∧ (d'.slot i).meter = (d.slot i).meter ∧ d'.work = d.work
  failed : 3 ≤ q.attempts → n = (d.slot i).insertion →
    (d'.slot i).lastSequence = some ⟨kind, .failed, some step, q.attempts⟩ ∧
    ((d.slot i).admission.seated = true →
      (d'.slot i).admission = .mute ∧ holds d'.system (.slot .mute i) = true) ∧
    (kind ≠ .debit → (d'.slot i).meter = (d.slot i).meter) ∧
    (kind = .debit →
      account (d'.slot i) = { account (d.slot i) with
        pending := min 4294967295 ((d.slot i).meter.pending + (d.slot i).meter.inFlight.getD 0), inFlight := none
        uncertain := some ((d.slot i).meter.uncertain.getD ⟨q.expected, q.amount⟩)
        saturated := (d.slot i).meter.saturated ||
          decide (4294967295 < (d.slot i).meter.pending + (d.slot i).meter.inFlight.getD 0) } ∧
      (d'.slot i).gate.level = levelOf (d'.slot i).meter (d'.slot i).gate ∧
      (d.supply = .low ∨ d.resetCarry = true → (d.slot i).merged = true → Queues d d' d' i true none))

/-- The answer of R123 for a position, by the gate of its slot. -/
def ackAnswer (d : Device) (b : Byte) : Byte :=
  if h : b.toNat < 8 then
    match (d.slot ⟨b.toNat, h⟩).gate.gate with
    | .draining | .shut => 0x00
    | .severed => 0x03
    | .opened => 0x04
  else 0x08

/-- R1, R4, R18, R37, R55, R63, R69, R129, R151, R170, R171: what a reset leaves, whichever of the three it is. The stored
items with their spare copies stay, all else takes its reset value, a slot whose line is low settles, and the lists begin
with RESET. That SB_DAT is then high is log entry 7, the order of the SEATED events log entry 36, and SUPPLY after them log
entry 24. -/
def AfterReset (d d' : Device) (reason : BitVec 4) (supplyAtRising : Bool) (low : SlotNo → Bool) : Prop :=
  d'.power = .run ∧ d'.tick = 0 ∧ d'.framePhase = 0 ∧ d'.auditPeriod = 60 ∧ d'.auditElapsed = 0 ∧
  d'.wakeMask = 0xFF ∧ d'.work = [] ∧ d'.seq = none ∧ d'.sensing = .active ∧ d'.spurious = 0 ∧
  d'.measure = .stopped ∧ d'.nonceCount = 0 ∧ d'.keysAbsent = false ∧ d'.resetCarry = false ∧
  d'.engine.mask = 0 ∧ d'.system.mask = 0 ∧ d'.engine.reply = Reply.empty ∧ d'.system.reply = Reply.empty ∧
  d'.datLow = false ∧ d'.clockRested = (d.busIdle && d.clockRested) ∧
  d'.store.entries = d.store.entries ∧ d'.store.header = d.store.header ∧ d'.store.key = d.store.key ∧
  d'.store.spareEntries = d.store.spareEntries ∧ d'.store.spareHeader = d.store.spareHeader ∧
  d'.store.spareKey = d.store.spareKey ∧
  d'.bootNumber = (match d.store.header with | none => 1 | some h => h.boot + 1) ∧
  d'.store.workingSeen = (match d.store.header with | none => 0 | some h => h.seen) ∧
  d'.store.queue = [⟨.header ⟨d'.bootNumber, d'.store.workingSeen⟩, false⟩] ∧ d'.store.writing = none ∧
  d'.keyStore = (match d.store.key with | none => .blank | some k => .provisioned k) ∧
  d'.supply = (if supplyAtRising then .normal else .low) ∧
  d'.engine.events = ⟨.device .reset, reason, 1⟩ :: (if supplyAtRising then [] else [⟨.device .supply, 1, 1⟩]) ∧
  d'.system.events = ⟨.device .reset, reason, 1⟩ ::
    (((List.finRange 8).filter fun i => low i).map (fun i => ⟨.slot .seated i, 0, 1⟩) ++
      (if supplyAtRising then [] else [⟨.device .supply, 1, 1⟩])) ∧
  ∀ i : SlotNo, (low i = false → d'.slot i = Slot.afterReset false (d'.slot i).serviceHigh (d'.slot i).cartridge) ∧
    (low i = true → (d'.slot i).admission = .settling ∧ (d'.slot i).insertion = 1 ∧ (d'.slot i).seatedAt = 0 ∧
      (d'.slot i).settleTimer = some 0 ∧ (d'.slot i).meter = Meter.vacant ∧ (d'.slot i).identity = none ∧
      (d'.slot i).gate.gate = .severed ∧ (d'.slot i).gate.causes = { Causes.empty with pending := true } ∧
      (d'.slot i).lamp.shown = .greenFlicker)

/-! ## What a link refuses before a command is taken (R159 to R163) -/

/-- R160: whether a link permits a command. -/
def permitted (c : Instr) (l : Link) : Bool :=
  match c with
  | .nop _ | .readLevels _ | .readEvents _ | .setMask _ | .flush _ => true
  | .jetTally _ | .gateAck _ => decide (l = .engine)
  | _ => decide (l = .system)

/-- R162, R163 and section 12.1: whether a payload of `n` bytes has the length of the command's parameters. -/
def lengthAllowed (c : Instr) (n : Nat) : Bool :=
  match c with
  | .nop _ | .readLevels _ | .readEvents _ | .standby _ | .wake _ | .resetPart _ => n = 0
  | .setMask _ => n ≤ 16
  | .flush _ | .readSlot _ | .checkSlot _ | .acceptSuspect _ | .setWakeMask _ | .setAudit _ => n = 1
  | .jetTally _ => n = 10 ∨ n = 20 ∨ n = 30 ∨ n = 40 ∨ n = 50 ∨ n = 60 ∨ n = 70 ∨ n = 80
  | .gateAck _ => 1 ≤ n ∧ n ≤ 8
  | .readHistory _ | .forceGate _ | .lamp _ => n = 2
  | .setGrace _ => n = 3
  | .setPolicy _ => n = 4
  | .setThresholds _ => n = 15
  | .provisionKeys _ => n = 16
  | .setMetering _ => n = 19
  | _ => false

/-- R161: the commands that are taken in STANDBY. -/
def takenInStandby : Instr → Bool
  | .jetTally _ | .wake _ => true
  | _ => false

/-- Whether the payload of a command begins with the number of the one slot that the command names. -/
def namesSlot : Instr → Bool
  | .readSlot _ | .checkSlot _ | .acceptSuspect _ | .setMetering _ | .setThresholds _ | .setPolicy _ | .setGrace _
  | .forceGate _ | .lamp _ => true
  | _ => false

/-- Steps 1 to 5 of R159 for a whole frame of the bytes received, as far as the length of the payload and the slot it
names decide them: the first check that fails. -/
def firstFailure (d : Device) (c : Instr) (l : Link) (received : List Byte) : Option Result :=
  let n := (received.getD 1 0).toNat
  if d.resetCarry then some .busy
  else match c with
    | .unknown _ _ => some .unknown
    | _ =>
      if !permitted c l then some .notPermitted
      else if d.power = .standby ∧ takenInStandby c = false then some .asleep
      else if !lengthAllowed c n || (namesSlot c && decide (8 ≤ (received.getD 2 0).toNat)) then some .invalid
      else none

/-! ## What every step keeps -/

/-- R118, R119, R121: a gate is OPEN exactly when its cause set is empty, its grace timer runs exactly while it is
DRAINING, and no gate drains with an immediate cause. -/
structure GateOk (g : GateRecord) : Prop where
  opened : g.gate = .opened ↔ g.causes.any = false
  timer : g.graceTimer.isSome = true ↔ g.gate = .draining
  draining : g.gate = .draining → g.causes.immediate = false

def GatesOk (d : Device) : Prop := ∀ i, GateOk (d.slot i).gate

/-- The ranges of R25, R67, R83, R84, R91 and R120: residues below a microlitre, and counts within their limits. -/
structure CountsOk (s : Slot) : Prop where
  residue : s.meter.residue < quantaPerMicrolitre
  orphanResidue : s.orphanResidue < quantaPerMicrolitre
  pending : s.meter.pending ≤ max32
  metered : s.meter.metered ≤ max32
  orphanCount : s.orphanCount ≤ 65535
  busErrors : s.busErrors ≤ 255
  forcedCloses : s.gate.forcedCloses ≤ 255
  proofCount : s.proofCount ≤ 65535

def AllCountsOk (d : Device) : Prop := ∀ i, CountsOk (d.slot i)

/-- R146: a list holds no two entries of the same kind and slot, and the occurrences of each are 1 to 255. -/
def ListOk (es : List EventEntry) : Prop :=
  (es.map EventEntry.id).Nodup ∧ ∀ e ∈ es, 1 ≤ e.occurrences ∧ e.occurrences ≤ 255

/-- R145, R146: both lists are so, and the Engine list holds only kinds that are routed to it. -/
def ListsOk (d : Device) : Prop :=
  ListOk d.engine.events ∧ ListOk d.system.events ∧ ∀ e ∈ d.engine.events, e.id.toEngine = true

/-- The kind and slot of an entry's work; none for a SCAN. -/
def workOf (e : Entry) : Option (WorkKind × SlotNo) :=
  match e.job with
  | .scan => none
  | .onSlot kind i _ => some (kind, i)

/-- R39: an entry for a slot carries the slot's current insertion number, and a VACANT slot has no entry. -/
def EntryCurrent (d : Device) (e : Entry) : Prop :=
  match e.job with
  | .scan => True
  | .onSlot _ i insertion => insertion = (d.slot i).insertion ∧ (d.slot i).admission ≠ .vacant

/-- R38, R39: at most one entry for each pair of slot and kind and at most one SCAN, every entry current, and the urgent
flag on DEBIT entries alone. -/
structure WorkOk (d : Device) : Prop where
  single : (d.work.map workOf).Nodup
  current : ∀ e ∈ d.work, EntryCurrent d e
  urgent : ∀ e ∈ d.work, e.urgent = true → e.isDebit = true

/-- R128, R130: at most one write is queued for each of the 34 items. -/
def QueueOk (d : Device) : Prop := (d.store.queue.map fun w => w.write.item).Nodup

/-- R117: every stored cause set is the set of the causes that hold. -/
def CausesOk (d : Device) : Prop := ∀ i, (d.slot i).gate.causes = causesOf (d.slot i)

/-- R114: every stored level class is the class of the remaining ink. -/
def LevelsOk (d : Device) : Prop := ∀ i, (d.slot i).gate.level = levelOf (d.slot i).meter (d.slot i).gate

/-- R153: every stored lamp target is the one that the slot calls for. -/
def LampsOk (d : Device) : Prop := ∀ i, (d.slot i).lamp.target =
  match (d.slot i).lamp.override with
  | .auto => autoPattern (d.slot i)
  | .pattern p => p

/-- R3, R14, R18, R73, R86, R89, R109: an in-flight amount stands exactly while a DEBIT of its slot is in flight, which is
then ADMITTED and PROVEN under the sequence's insertion number; an uncertain-debit record names the confirmed used and an
amount that is still unanswered; and what these rest on. -/
structure WriteBackOk (d : Device) : Prop where
  debit : ∀ q, d.seq = some q → ∀ i n, q.job = .onSlot .debit i n →
    n = (d.slot i).insertion ∧ (d.slot i).admission = .admitted ∧ (d.slot i).verdict = .proven ∧
      (d.slot i).meter.inFlight = some q.amount ∧ q.expected = (d.slot i).meter.confirmed
  inFlight : ∀ i a, (d.slot i).meter.inFlight = some a →
    0 < a ∧ a ≤ 4294967295 ∧ (d.slot i).meter.capacity ≠ none ∧ ∃ q, d.seq = some q ∧ ∃ n, q.job = .onSlot .debit i n
  record : ∀ i u, (d.slot i).meter.uncertain = some u →
    u.expected = (d.slot i).meter.confirmed ∧ 0 < u.amount ∧ (d.slot i).meter.capacity ≠ none ∧
      u.amount ≤ (d.slot i).meter.inFlight.getD (d.slot i).meter.pending
  prove : ∀ q, d.seq = some q → ∀ i n, q.job = .onSlot .prove i n → (d.slot i).meter.uncertain = none
  account : ∀ i, (d.slot i).admission = .proving ∨ (d.slot i).admission = .admitted → (d.slot i).meter.capacity ≠ none
  vacant : ∀ i, (d.slot i).admission = .vacant → (d.slot i).meter = Meter.vacant
  unseated : ∀ i, (d.slot i).admission.seated = false → (d.slot i).identity = none ∧ (d.slot i).verdict = .none
  unmerged : ∀ i, (d.slot i).merged = false → (d.slot i).meter.carriedIn = 0
  asleep : d.power = .standby → d.seq = none

/-- R3, R10, R14: the identity and the held identity of a slot exclude each other, and a slot that is VACANT, SETTLING or
IDENTIFYING has no identity. -/
def IdentitiesOk (d : Device) : Prop := ∀ i,
  ((d.slot i).identity = none ∨ (d.slot i).held = none) ∧
    ((d.slot i).admission.seated = false ∨ (d.slot i).admission = .identifying → (d.slot i).identity = none)

/-- R85: while pending has not saturated, carried-in and metered equal pending, in-flight and posted. It is said up to
the limit of 32 bits, beyond which the posted amount is a free value (log entry 2). -/
def BalanceOk (d : Device) : Prop := ∀ i, (d.slot i).meter.saturated = false →
  (d.slot i).meter.carriedIn + (d.slot i).meter.metered ≤ 4294967295 →
    (d.slot i).meter.carriedIn + (d.slot i).meter.metered =
      (d.slot i).meter.pending + (d.slot i).meter.inFlight.getD 0 + (d.slot i).meter.posted

/-- What every step keeps, together. -/
structure Inv (d : Device) : Prop where
  gates : GatesOk d
  causes : CausesOk d
  levels : LevelsOk d
  lamps : LampsOk d
  identities : IdentitiesOk d
  writeBack : WriteBackOk d
  balance : BalanceOk d
  counts : AllCountsOk d
  lists : ListsOk d
  work : WorkOk d
  queue : QueueOk d

/-- R27, R29, R30: what a cartridge keeps. Its serial, ink code, generation, capacity and key are fixed, its used count
and its marks only grow, and a broken seal stays broken. -/
structure Keeps (before after : CartridgeMemory) : Prop where
  fixed : { after with used := before.used, marks := before.marks, sealBroken := before.sealBroken } = before
  used : before.used.toNat ≤ after.used.toNat
  marks : after.marks.holds before.marks = true
  broken : before.sealBroken = true → after.sealBroken = true

end Sys2Proof.Safety
end

