-- ==== Sys2Proof/Certificates/Slice0/Obligations.lean ====
section
/-! DEFINITION. The statements for the provers. -/

open Sys2Proof Sys2Proof.Machine Sys2Proof.Safety

/-! ## The step, reset, and what every step keeps -/

/-- The command at the front of the queue is carried out on the machine with the queue's rest, and an empty queue idles.
The queue and the idle step are the model's choice (log entries 31 and 6). -/
def Obligations.StepTakesTheFrontCommand : Prop :=
  (∀ (c : Instr) (rest : List Instr) (d : Device), step ⟨d, c :: rest⟩ = exec c ⟨d, rest⟩) ∧
    ∀ d : Device, step ⟨d, []⟩ = .next ⟨d, []⟩

/-- What every step keeps holds at State.reset. Where the specification gives the first power-on no value, that state is the
model's choice (log entry 1). -/
def Obligations.ResetMeetsTheInvariant : Prop := Inv State.reset.dev

/-- R118, R119, R121: in every state after a step, a gate is OPEN exactly when no cause is present, and its grace timer
runs exactly while it is DRAINING. R117, R153, R114: no step leaves a stored cause set, a stored lamp target or, where the
write-back items stand as R109 has them, a stored level class other than the one that the rest of the slot calls for. R3,
R10, R14: no step leaves a slot with both an identity and a held identity, or an identity on a slot that is VACANT, SETTLING
or IDENTIFYING. -/
def Obligations.EveryStepKeepsTheGates : Prop :=
  ∀ s t : State, step s = .next t →
    (GatesOk s.dev → GatesOk t.dev) ∧ (CausesOk s.dev → CausesOk t.dev) ∧ (LampsOk s.dev → LampsOk t.dev) ∧
      (IdentitiesOk s.dev → IdentitiesOk t.dev) ∧ (WriteBackOk s.dev → LevelsOk s.dev → LevelsOk t.dev)

/-- R146, R83, R84, R91, R25, R67, R120, R145, R128, R130: no step takes a residue to a microlitre or a count past its
limit, leaves two entries of the same kind and slot in an event list, occurrences outside 1 to 255, or a kind on the
Engine list that is not routed there, or leaves two queued writes of one item. -/
def Obligations.EveryStepKeepsCountsListsAndQueue : Prop :=
  ∀ s t : State, step s = .next t →
    (AllCountsOk s.dev → AllCountsOk t.dev) ∧ (ListsOk s.dev → ListsOk t.dev) ∧ (QueueOk s.dev → QueueOk t.dev)

/-- No step leaves two entries of one kind on one slot, two SCANs, an entry with a stale insertion number, an entry on a
VACANT slot, or an urgent entry that is no DEBIT. -/
def Obligations.EveryStepKeepsTheWorkList : Prop :=
  ∀ s t : State, WorkOk s.dev → step s = .next t → WorkOk t.dev

/-- What ends every command changes nothing outside WINDING DOWN; in it nothing of a slot but its refresh base, and it
leaves debits settled held exactly while no urgent work is left, and no urgent entry that is not eligible (R46, R167).
R168: when debits settled comes to hold, it queues a write of the entry of every slot that is not VACANT and has its merged
mark set; at no other moment does it queue any. That both conditions are examined once, when all else of a command is done,
is the model's choice (log entry 16). -/
def Obligations.WhatEndsACommand : Prop :=
  (∀ d : Device, d.power ≠ .windingDown → d.conclude = d) ∧
  (∀ (d : Device) (i : SlotNo),
    { d.conclude.slot i with meter := account (d.conclude.slot i) } = { d.slot i with meter := account (d.slot i) }) ∧
  (∀ d : Device, d.power = .windingDown →
    d.conclude.power = .windingDown ∧ d.conclude.seq = d.seq ∧ d.conclude.work.map Entry.job = d.work.map Entry.job ∧
    d.conclude.debitsSettled = !d.conclude.urgentWork ∧
    ∀ e ∈ d.conclude.work, e.urgent = true → d.conclude.eligible e = true) ∧
  (∀ d : Device, d.power = .windingDown → d.debitsSettled = true ∨ d.conclude.debitsSettled = false →
    d.conclude.store = d.store ∧ SameEvents d d.conclude) ∧
  (∀ (d : Device) (i : SlotNo) (id : Identity), d.power = .windingDown → d.debitsSettled = false →
    d.conclude.debitsSettled = true → (d.slot i).admission ≠ .vacant → (d.slot i).merged = true →
    (d.slot i).writtenIdentity = some id → (∀ j : SlotNo, j ≠ i → (d.slot j).holdsSerial id.serial = false) →
    (d.store.lookup id.serial).isSome = true → Queues d d d.conclude i false none) ∧
  ∀ s t : State, s.pending ≠ [] → step s = .next t → t.dev.power = .windingDown →
    t.dev.debitsSettled = !t.dev.urgentWork ∧ ∀ e ∈ t.dev.work, e.urgent = true → t.dev.eligible e = true

/-- A cartridge's fixed items never change and its used count and marks only grow: under every command, each cartridge that
was in a slot and is in it still keeps them so, unless the command puts another one in its place. DEBIT and MARK add to
them (R29), and a seal that breaks adds SEAL (R30). That a falling edge and the resets of the device's own power and pin
may bring another cartridge is the model's choice (log entries 19 and 20). -/
def Obligations.CartridgesOnlyGrow : Prop :=
  ∀ (c : Instr) (s t : State), exec c s = .next t →
    ∀ i : SlotNo, (∀ m, c ≠ .fallingEdge i (some m)) →
      (∀ l m, c = .powerOn l ∨ c = .resetPin l → (i, m) ∉ l.powered) →
      ∀ x y : Cartridge, (s.dev.slot i).cartridge = some x → (t.dev.slot i).cartridge = some y → Keeps x.memory y.memory

/-- The master key is write-once: no command but a reset takes it away or changes it. -/
def Obligations.TheMasterKeyIsWriteOnce : Prop :=
  ∀ (c : Instr) (s t : State) (km : Key), exec c s = .next t → s.dev.keyStore = .provisioned km →
    (∀ l, c ≠ .powerOn l) → (∀ l, c ≠ .resetPin l) → (∀ b, c ≠ .resetPartActs b) → t.dev.keyStore = .provisioned km

/-! ## Frames, packets, and what is computed of a record -/

/-- The bytes that spell a well-formed command of a link are read as that command, with every payload and padding, and so
are the same bytes with any other padding of that length. That padding is counted and its contents are not kept is log
entry 10. -/
def Obligations.FramesReadBack : Prop :=
  ∀ (c : Instr) (l : Link) (bytes : List Byte), c.wf = true → encodeFrame c = some (l, bytes) →
    decodeFrame l bytes = c ∧
    ∀ other : List Byte, (∀ received, c ≠ .framing l received) → other.length = bytes.length →
      other.take (2 + (bytes.getD 1 0).toNat) = bytes.take (2 + (bytes.getD 1 0).toNat) → decodeFrame l other = c

/-- R26: the CRC-8 of a whole packet, its CRC-8 byte included, is 0, and the check value of section 12.4. R27 to R31: what a
cartridge makes of a request packet. One with a bad CRC-8, an unknown op or a length that is not its op's is ignored; each
other is carried out, its reply prepared, and attention signalled set. -/
def Obligations.PacketsCheckToZero : Prop :=
  (∀ bytes : List Byte, crc8 (withCrc bytes) = 0) ∧ crc8 [0x00] = 0x42 ∧
  (∀ (c : Cartridge) (op : Byte) (rest : List Byte),
    crc8 (op :: rest) ≠ 0 ∨ ¬((op = 0x51 ∧ rest.length = 1) ∨ (op = 0x52 ∧ rest.length = 9) ∨
      (op = 0x53 ∧ rest.length = 9) ∨ (op = 0x54 ∧ rest.length = 2) ∨ (op = 0x55 ∧ rest.length = 1)) →
    c.receive (op :: rest) = none) ∧
  ∀ c : Cartridge,
    let heard : Cartridge := { c with attentionSignalled := true }
    let used := c.memory.used.toNat
    let printer := (if c.memory.marks.exhausted then 1 else 0) + (if c.memory.marks.suspect then 2 else 0)
    c.receive (withCrc [0x51]) = some (heard, replyPacket 0xA0 (beBytes 8 c.memory.serial.toNat ++
      beBytes 2 c.memory.inkCode.toNat ++ beBytes 1 c.memory.generation.toNat ++ beBytes 4 c.memory.capacity.toNat ++
      beBytes 4 used ++ [c.memory.marks.toByte])) ∧
    (∀ high low : Word,
      let response := digest c.memory.key [high, low, c.memory.used, c.memory.capacity,
        BitVec.ofNat 32 (printer * 65536 + c.memory.inkCode.toNat)]
      c.receive (withCrc (0x52 :: (beBytes 4 high.toNat ++ beBytes 4 low.toNat))) =
        some (heard, replyPacket 0xA0 (beBytes 4 response.x.toNat ++ beBytes 4 response.y.toNat))) ∧
    (∀ expected amount : Nat, expected ≤ 4294967295 → amount ≤ 4294967295 →
      c.receive (withCrc (0x53 :: (beBytes 4 expected ++ beBytes 4 amount))) = some
        (if used ≠ expected then (heard, replyPacket 0xA2 (beBytes 4 used))
          else if 4294967295 < used + amount then (heard, replyPacket 0xA3 (beBytes 4 used))
          else ({ heard with memory := { c.memory with used := BitVec.ofNat 32 (used + amount) } },
            replyPacket 0xA1 (beBytes 4 (used + amount))))) ∧
    (∀ set : Byte,
      let marks : Marks :=
        ⟨c.memory.marks.exhausted || set.getLsbD 0, c.memory.marks.suspect || set.getLsbD 1, c.memory.marks.sealMark⟩
      c.receive (withCrc [0x54, set]) =
        some ({ heard with memory := { c.memory with marks := marks } }, replyPacket 0xA0 [marks.toByte])) ∧
    c.receive (withCrc [0x55]) = some (heard, replyPacket 0xA0
      [c.memory.marks.toByte, if c.attentionCause = .sealCause then 0x01 else 0x00])

/-- A cartridge that has applied a DEBIT answers the same DEBIT again with STALE and adds nothing (R29). -/
def Obligations.TheSameDebitAddsOnce : Prop :=
  ∀ (c : Cartridge) (expected amount : Nat), expected ≤ max32 → 0 < amount → amount ≤ max32 →
    c.memory.used.toNat = expected → expected + amount ≤ max32 →
      (c.debit expected amount).1.memory.used.toNat = expected + amount ∧
      (c.debit expected amount).2 = replyPacket statusApplied (beBytes 4 (expected + amount)) ∧
      ((c.debit expected amount).1.debit expected amount).1 = (c.debit expected amount).1 ∧
      ((c.debit expected amount).1.debit expected amount).2 = replyPacket statusStale (beBytes 4 (expected + amount))

/-- What a cartridge with the right key answers to a PROVE is what the device expects, when the device's reference
values are the cartridge's own (R28, R62, R66). -/
def Obligations.AGenuineCartridgeProves : Prop :=
  ∀ (d : Device) (c : Cartridge) (km : Key) (i : SlotNo) (insertion : BitVec 8) (id : Identity) (h : ProveHold)
    (q : Sequence),
    d.keyStore = .provisioned km → (d.slot i).identity = some id → (d.slot i).admission = .proving →
    c.memory.key = cartridgeKey km id.serial id.inkCode id.generation → c.memory.inkCode = id.inkCode →
    c.memory.used.toNat = id.used → c.memory.capacity.toNat = id.capacity →
    c.memory.marks.printerValue = id.marks.printerValue →
    d.makeProveHold i insertion = some h → q.proveHold = some h →
      checkReply .prove (c.proveReply h.nonceHigh h.nonceLow) id.marks Wanted.empty =
        some (.prove (proofResponse c.memory.key h.nonceHigh h.nonceLow id.used id.capacity id.marks.printerValue
            id.inkCode).x
          (proofResponse c.memory.key h.nonceHigh h.nonceLow id.used id.capacity id.marks.printerValue id.inkCode).y) ∧
      q.proveEqual (some id)
        (proofResponse c.memory.key h.nonceHigh h.nonceLow id.used id.capacity id.marks.printerValue id.inkCode).x
        (proofResponse c.memory.key h.nonceHigh h.nonceLow id.used id.capacity id.marks.printerValue id.inkCode).y = true

/-- R113: the level class of an open account, by its remaining ink R, the effective thresholds L and C, and the reserve
Z; NORMAL while the account is closed. R111: the effective thresholds of the settings, AUTO being 15 % of the capacity for
LOW and 5 % for CRITICAL, rounded down, and LOW raised to CRITICAL. -/
def Obligations.LevelClassFollowsTheTable : Prop :=
  (∀ (m : Meter) (g : GateRecord) (c : Nat) (r : Int), m.capacity = some c → m.remaining = some r →
    (levelOf m g = .normal ↔ (g.effectiveLow c : Int) < r) ∧
    (levelOf m g = .low ↔ (g.effectiveCritical c : Int) < r ∧ r ≤ g.effectiveLow c) ∧
    (levelOf m g = .critical ↔ 0 < r ∧ r ≤ g.effectiveCritical c) ∧
    (levelOf m g = .dry ↔ -(g.reserve : Int) < r ∧ r ≤ 0) ∧
    (levelOf m g = .spent ↔ r ≤ -(g.reserve : Int))) ∧
  (∀ (m : Meter) (g : GateRecord), m.capacity = none → levelOf m g = .normal) ∧
  ∀ (g : GateRecord) (c : Nat),
    g.effectiveCritical c = (match g.critical with | .auto => c * 5 / 100 | .absolute v => v) ∧
    g.effectiveLow c = max (match g.low with | .auto => c * 15 / 100 | .absolute v => v) (g.effectiveCritical c)

/-- R85: an accumulation keeps the balance of carried-in and metered against pending, in-flight and posted, unless it
saturates; so do the grant of a DEBIT and each judgement of its reply. R109: no step leaves an in-flight amount without its
DEBIT in flight, nor an uncertain-debit record that does not name the confirmed used and an amount still unanswered; and
under that, every step keeps the balance, and while pending has not saturated no step of an insertion raises the remaining
ink (R90; log entry 12). A posted amount beyond 32 bits is a free value (log entry 2). -/
def Obligations.TheAccountBalances : Prop :=
  (∀ m : Meter, m.saturated = false → m.carriedIn + m.metered = m.pending + m.inFlight.getD 0 + m.posted →
    (∀ a, (m.accumulate a).saturated = false → (m.accumulate a).carriedIn + (m.accumulate a).metered =
      (m.accumulate a).pending + (m.accumulate a).inFlight.getD 0 + (m.accumulate a).posted) ∧
    (m.inFlight = none → m.carriedIn + m.metered = m.grantDebit.pending + m.grantDebit.inFlight.getD 0 +
      m.grantDebit.posted) ∧
    ∀ (expected amount usedAfter : Nat) (reconciled : Bool) (status : DebitStatus) (j : Judgement),
      m.inFlight = some amount → m.posted + amount ≤ max32 → (∀ u, m.uncertain = some u → u.amount ≤ amount) →
      j = judgeDebit m expected amount reconciled status usedAfter → j.meter.saturated = false →
        j.meter.carriedIn + j.meter.metered = j.meter.pending + j.meter.inFlight.getD 0 + j.meter.posted) ∧
  ∀ s t : State, step s = .next t → WriteBackOk s.dev → WorkOk s.dev → AllCountsOk s.dev →
    WriteBackOk t.dev ∧ (BalanceOk s.dev → BalanceOk t.dev) ∧
    ∀ (i : SlotNo) (r r' : Int), (s.dev.slot i).meter.remaining = some r → (t.dev.slot i).meter.remaining = some r' →
      (t.dev.slot i).insertion = (s.dev.slot i).insertion → (t.dev.slot i).meter.saturated = false → r' ≤ r

/-! ## The judgement of a frame -/

/-- R159, steps 1 to 5, R160 to R163: a whole frame that fails a check is answered with the result of the first one it
fails, in this order: BUSY during a RESET PART carry, UNKNOWN, NOT_PERMITTED on the other link, ASLEEP in STANDBY, and
INVALID for a payload of another length or a slot above 7. It echoes the code, carries no payload, and changes nothing. -/
def Obligations.TheFirstFailedCheckAnswers : Prop :=
  ∀ (c : Instr) (l : Link) (bytes : List Byte) (result : Result) (s : State), c.wf = true →
    encodeFrame c = some (l, bytes) → (∀ received, c ≠ .framing l received) →
    firstFailure s.dev c l bytes = some result →
      Completes c s fun d' => Replies s.dev d' l bytes.length result (bytes.headD 0) [] ∧ quiet s.dev d' l = s.dev

/-- R157, R159: bytes make a discarded frame exactly when they are fewer than two, have a length byte above 96, or are
fewer than it calls for. A discarded frame is answered FRAMING, with the first byte received as echo or the code of NOP;
a whole frame whose code is no command's, UNKNOWN, or BUSY during a RESET PART carry. Each is so in every power state,
and changes nothing. -/
def Obligations.FramesThatAreNoCommand : Prop :=
  (∀ received : List Byte, discardedFrame received = true ↔
    received.length < 2 ∨ 96 < (received.getD 1 0).toNat ∨ received.length < 2 + (received.getD 1 0).toNat) ∧
  (∀ (l : Link) (received : List Byte) (s : State), discardedFrame received = true →
    Completes (.framing l received) s fun d' =>
      Replies s.dev d' l received.length .framing (received.headD 0) [] ∧ quiet s.dev d' l = s.dev) ∧
  ∀ (code : Byte) (f : Frame) (s : State), f.payload.length ≤ 96 → code ∉ commandCodes →
    Completes (.unknown code f) s fun d' =>
      OnlyAnswers s.dev d' f (if s.dev.resetCarry then .busy else .unknown) code

/-! ## The reading commands and SET MASK -/

/-- R158: NOP leaves the empty reply, and changes nothing else; a payload is refused INVALID. -/
def Obligations.NopResult : Prop :=
  ∀ (f : Frame) (s : State), f.payload.length ≤ 96 → Takes s.dev →
    Completes (.nop f) s fun d' => OnlyAnswers s.dev d' f (if f.payload = [] then .ok else .invalid) 0x00

/-- R164: READ LEVELS reports eight entries of 13 bytes, each as section 12.1 lays it out, and changes nothing. -/
def Obligations.ReadLevelsResult : Prop :=
  ∀ (f : Frame) (s : State), f.payload = [] → Takes s.dev →
    Completes (.readLevels f) s fun d' => quiet s.dev d' f.link = s.dev ∧
      ∃ payload : List Byte, Replies s.dev d' f.link (clocked f) .ok 0x01 payload ∧ payload.length = 104 ∧
        ∀ i : SlotNo, ((payload.drop (13 * i.val)).take 13) =
          [(s.dev.slot i).admission.code, (s.dev.slot i).verdict.code, (s.dev.slot i).gate.level.code,
            (s.dev.slot i).gate.gate.code,
            (if (s.dev.slot i).flags.any then 1 else 0) + (if (s.dev.slot i).meter.capacity = none then 2 else 0)] ++
          (match (s.dev.slot i).meter.remaining with
            | none => beBytes 4 0 ++ beBytes 4 0
            | some r => beBytes 4 r.toNat ++ beBytes 4 (min 4294967295 (-r).toNat))

/-- R149: READ EVENTS returns the first 12 unmasked entries of its link's list and removes them, and changes nothing
else; the hidden entries and the entries left keep their order. -/
def Obligations.ReadEventsResult : Prop :=
  ∀ (f : Frame) (s : State) (shown : List EventEntry), f.payload = [] → Takes s.dev →
    shown = (s.dev.port f.link).events.filter (fun e => !maskedBy (s.dev.port f.link).mask e) →
    Completes (.readEvents f) s fun d' =>
      Replies s.dev d' f.link (clocked f) .ok 0x02
        ((shown.take 12).flatMap eventEntryBytes ++ [BitVec.ofNat 8 (shown.length - 12)]) ∧
      (d'.port f.link).events.filter (fun e => !maskedBy (s.dev.port f.link).mask e) = shown.drop 12 ∧
      (d'.port f.link).events.filter (fun e => maskedBy (s.dev.port f.link).mask e) =
        (s.dev.port f.link).events.filter (fun e => maskedBy (s.dev.port f.link).mask e) ∧
      ((d'.port f.link).attention = true ↔ 12 < shown.length) ∧
      (quiet s.dev d' f.link).updPort f.link (fun p => { p with events := (s.dev.port f.link).events }) = s.dev

/-- R148, R173: SET MASK replaces the link's mask by the kinds its codes name; more than 16 codes, or a code that is no
event kind, is refused INVALID and changes nothing. -/
def Obligations.SetMaskResult : Prop :=
  ∀ (f : Frame) (s : State), f.payload.length ≤ 96 → Takes s.dev →
    Completes (.setMask f) s fun d' =>
      if f.payload.length ≤ 16 ∧ ∀ b ∈ f.payload, 1 ≤ b.toNat ∧ b.toNat ≤ 16 then
        Replies s.dev d' f.link (clocked f) .ok 0x03 [] ∧
        (∀ k, k < 16 → (d'.port f.link).mask.getLsbD k = f.payload.any fun b => decide (b.toNat = k + 1)) ∧
        (quiet s.dev d' f.link).updPort f.link (fun p => { p with mask := (s.dev.port f.link).mask }) = s.dev
      else OnlyAnswers s.dev d' f .invalid 0x03

/-- R165: READ SLOT reports the slot's record of 184 bytes and 2 bytes for each of its Work List entries, every field as
section 12.2 places it, and sets the bus error count and the orphan count to 0; it changes nothing else. -/
def Obligations.ReadSlotResult : Prop :=
  ∀ (f : Frame) (s : State) (i : SlotNo), f.link = .system → f.payload = [slotByte i] → Takes s.dev →
    Completes (.readSlot f) s fun d' =>
      OnlySlot s.dev (quiet s.dev d' .system) i ∧
      d'.slot i = { s.dev.slot i with busErrors := 0, orphanCount := 0 } ∧
      ∃ payload : List Byte, Replies s.dev d' .system (clocked f) .ok 0x20 payload ∧ SlotReport s.dev i payload

/-- R144: READ HISTORY reports the stored boot number, the working seen number, the queued writes and the places asked
for, 38 bytes each as section 12.2 lays them out, with each place's write state and its current content or BLANK; a range
that passes place 31 ends there. A first place above 31 and a count other than 1 and 2 are refused INVALID. It changes
nothing. R128: the current content is that of the write queued, else of the write in progress, else the stored content. That
the queued writes are counted without the write in progress, and a boot number never stored is sent as 0, is log entry 27. -/
def Obligations.ReadHistoryResult : Prop :=
  (∀ (f : Frame) (s : State) (a b : Byte), f.link = .system → Takes s.dev → f.payload = [a, b] →
    Completes (.readHistory f) s fun d' =>
      if a.toNat < 32 ∧ (b = 1 ∨ b = 2) then
        quiet s.dev d' .system = s.dev ∧
        ∃ payload : List Byte, Replies s.dev d' .system (clocked f) .ok 0x21 payload ∧
          payload.length = 9 + 38 * min b.toNat (32 - a.toNat) ∧
          field payload 0 9 = beBytes 4 (match s.dev.store.header with | none => 0 | some h => h.boot.toNat) ++
            beBytes 4 s.dev.store.workingSeen ++ beBytes 1 s.dev.store.queue.length ∧
          ∀ p : Place, a.toNat ≤ p.val → p.val < a.toNat + b.toNat →
            PlaceReport s.dev.store p (field payload (9 + 38 * (p.val - a.toNat)) 38)
      else OnlyAnswers s.dev d' f .invalid 0x21) ∧
  ∀ (d : Device) (p : Place), QueueOk d →
    (∀ w ∈ d.store.queue, ∀ e, w.write = .entry p e → d.store.current p = some e) ∧
    ((∀ w ∈ d.store.queue, w.write.item ≠ .entry p) →
      (∀ w e, d.store.writing = some w → w.write = .entry p e → d.store.current p = some e) ∧
      ((∀ w, d.store.writing = some w → w.write.item ≠ .entry p) → d.store.current p = d.store.entries.get p))

/-! ## The commands of configuration -/

/-- R75: SET METERING writes the slot's whole metering configuration, each value limited to its range; a slot, mode or
polarity outside its codes is refused INVALID and changes nothing. A write that does not end a VALVE active period over
pending ink changes nothing else. -/
def Obligations.SetMeteringResult : Prop :=
  ∀ (f : Frame) (s : State) (b f1 f0 n1 n0 c1 c0 t1 t0 mode pol v1 v0 w1 w0 d3 d2 d1 d0 : Byte),
    f.link = .system → Takes s.dev →
    f.payload = [b, f1, f0, n1, n0, c1, c0, t1, t0, mode, pol, v1, v0, w1, w0, d3, d2, d1, d0] →
    Completes (.setMetering f) s fun d' =>
      if h : b.toNat < 8 ∧ mode.toNat < 3 ∧ pol.toNat < 2 then
        let i : SlotNo := ⟨b.toNat, h.1⟩
        let before := s.dev.slot i
        let config : MeterConfig :=
          { fine := max 1 (min 16383 (256 * f1.toNat + f0.toNat))
            normal := max 1 (min 16383 (256 * n1.toNat + n0.toNat))
            coarse := max 1 (min 16383 (256 * c1.toNat + c0.toNat))
            trim := max (-128) (min 127 (t1 ++ t0).toInt)
            mode := if mode = 0 then .off else if mode = 1 then .stroke else .valve
            polarity := if pol = 0 then .risingOrHigh else .fallingOrLow
            stroke := 256 * v1.toNat + v0.toNat
            flow := min 4095 (256 * w1.toNat + w0.toNat)
            debitStep := max 10 (min 100000
              (16777216 * d3.toNat + 65536 * d2.toNat + 256 * d1.toNat + d0.toNat)) }
        Replies s.dev d' .system (clocked f) .ok 0x22 [] ∧
        (d'.slot i).config = config ∧ (d'.slot i).meter = before.meter ∧ OtherSlots s.dev d' i ∧
        (¬(before.valveOpen = true ∧ ({ before with config := config } : Slot).valveOpen = false ∧
            0 < before.meter.pending) →
          OnlySlot s.dev (quiet s.dev d' .system) i ∧ d'.slot i = { before with config := config })
      else OnlyAnswers s.dev d' f .invalid 0x22

/-- R112, R114: SET THRESHOLDS writes the two settings and the reserve after clamping and classes the slot anew; a setting
that is neither AUTO nor a number, and two absolute settings with LOW below CRITICAL, are refused INVALID and change
nothing. R95: a class that becomes CRITICAL, DRY or SPENT and more severe lists a DEBIT, where one can be listed; any other
lists none. -/
def Obligations.SetThresholdsResult : Prop :=
  ∀ (f : Frame) (s : State) (i : SlotNo) (lm l3 l2 l1 l0 cm c3 c2 c1 c0 r3 r2 r1 r0 : Byte),
    f.link = .system → Takes s.dev →
    f.payload = [slotByte i, lm, l3, l2, l1, l0, cm, c3, c2, c1, c0, r3, r2, r1, r0] →
    Completes (.setThresholds f) s fun d' =>
      let low := min 4000000 (16777216 * l3.toNat + 65536 * l2.toNat + 256 * l1.toNat + l0.toNat)
      let critical := min 4000000 (16777216 * c3.toNat + 65536 * c2.toNat + 256 * c1.toNat + c0.toNat)
      let reserve := min 65535 (16777216 * r3.toNat + 65536 * r2.toNat + 256 * r1.toNat + r0.toNat)
      if 2 ≤ lm.toNat ∨ 2 ≤ cm.toNat ∨ (lm = 0 ∧ cm = 0 ∧ low < critical) then OnlyAnswers s.dev d' f .invalid 0x23
      else
        let g : GateRecord :=
          { (s.dev.slot i).gate with
            low := if lm = 0 then .absolute low else .auto
            critical := if cm = 0 then .absolute critical else .auto
            reserve := reserve }
        Replies s.dev d' .system (clocked f) .ok 0x23 [] ∧ OtherSlots s.dev d' i ∧
        (d'.slot i).gate.low = g.low ∧ (d'.slot i).gate.critical = g.critical ∧ (d'.slot i).gate.reserve = reserve ∧
        (d'.slot i).gate.level = levelOf (s.dev.slot i).meter g ∧
        (d'.slot i).meter = (s.dev.slot i).meter ∧ (d'.slot i).admission = (s.dev.slot i).admission ∧
        (levelOf (s.dev.slot i).meter g = (s.dev.slot i).gate.level →
          OnlySlot s.dev (quiet s.dev d' .system) i ∧ d'.slot i = { s.dev.slot i with gate := g }) ∧
        (levelOf (s.dev.slot i).meter g ≠ (s.dev.slot i).gate.level →
          holds d'.system (.slot .level i) = true ∧ holds d'.engine (.slot .level i) = true ∧
          (d'.slot i).gate.causes = causesOf (d'.slot i)) ∧
        (Worsens (s.dev.slot i).gate.level (levelOf (s.dev.slot i).meter g) → Debitable (s.dev.slot i) →
          (s.dev.slot i).admission ≠ .vacant → ∃ e, d'.findEntry .debit i = some e ∧ e.origins.internal = true) ∧
        (¬Worsens (s.dev.slot i).gate.level (levelOf (s.dev.slot i).meter g) → d'.work = s.dev.work)

/-- R116, R117, R118: SET POLICY writes the three policies, and the cause set and the gate follow at once; an unknown
policy value or slot is refused INVALID and changes nothing. -/
def Obligations.SetPolicyResult : Prop :=
  ∀ (f : Frame) (s : State) (b x y z : Byte), f.link = .system → Takes s.dev → f.payload = [b, x, y, z] →
    Completes (.setPolicy f) s fun d' =>
      if h : b.toNat < 8 ∧ x.toNat < 2 ∧ y.toNat < 2 ∧ z.toNat < 3 then
        let i : SlotNo := ⟨b.toNat, h.1⟩
        let before := s.dev.slot i
        let after := d'.slot i
        Replies s.dev d' .system (clocked f) .ok 0x24 [] ∧
        OnlySlotAndEvents s.dev (quiet s.dev d' .system) i ∧
        after.gate.onRejected = (if x = 0 then .close else .warn) ∧
        after.gate.onSuspicion = (if y = 0 then .close else .warn) ∧
        after.gate.onDryness = (if z = 0 then .closeAtDry else if z = 1 then .closeAtSpent else .never) ∧
        { after with gate := before.gate, lamp := before.lamp } = before ∧
        after.gate.level = before.gate.level ∧ after.gate.causes = causesOf after ∧
        (after.gate.causes ≠ before.gate.causes →
          after.gate.gate =
            (if after.gate.causes.any = false then .opened
              else if after.gate.causes.immediate = true then
                (if before.gate.gate = .opened ∨ before.gate.gate = .draining then .severed else before.gate.gate)
              else if before.gate.gate = .opened then (if before.gate.grace = 0 then .severed else .draining)
              else before.gate.gate)) ∧
        (after.gate.causes = before.gate.causes →
          after.gate.gate = before.gate.gate ∧ SameEvents s.dev d')
      else OnlyAnswers s.dev d' f .invalid 0x24

/-- R119: SET GRACE writes the slot's grace, lowered to 60,000 ms; a grace timer that runs keeps its length. R15: SET WAKE
MASK replaces the wake-enable mask. Neither changes anything else. -/
def Obligations.SetGraceAndWakeMaskResult : Prop :=
  (∀ (f : Frame) (s : State) (i : SlotNo) (hi lo : Byte), f.link = .system → Takes s.dev →
    f.payload = [slotByte i, hi, lo] →
    Completes (.setGrace f) s fun d' =>
      Replies s.dev d' .system (clocked f) .ok 0x25 [] ∧ OnlySlot s.dev (quiet s.dev d' .system) i ∧
      d'.slot i =
        { s.dev.slot i with gate := { (s.dev.slot i).gate with grace := min 60000 (256 * hi.toNat + lo.toNat) } }) ∧
  ∀ (f : Frame) (s : State) (m : Byte), f.link = .system → Takes s.dev → f.payload = [m] →
    Completes (.setWakeMask f) s fun d' =>
      Replies s.dev d' .system (clocked f) .ok 0x2A [] ∧ d'.wakeMask = m ∧
      { quiet s.dev d' .system with wakeMask := s.dev.wakeMask } = s.dev

/-- R71: SET AUDIT sets the audit period, clamped to 240, and the elapsed time to 0, and is answered OK, in RUN and in
WINDING DOWN; in STANDBY it is answered ASLEEP. Where it writes 0, or in WINDING DOWN, no millisecond advances the timer. -/
def Obligations.SetAuditResult : Prop :=
  ∀ (f : Frame) (s : State) (m : Byte), f.link = .system → s.dev.resetCarry = false → f.payload = [m] →
    Completes (.setAudit f) s fun d' =>
      if s.dev.power = .standby then OnlyAnswers s.dev d' f .asleep 0x2B
      else
        Replies s.dev d' .system (clocked f) .ok 0x2B [] ∧ d'.auditPeriod = min 240 m.toNat ∧ d'.auditElapsed = 0 ∧
        { quiet s.dev d' .system with auditPeriod := s.dev.auditPeriod, auditElapsed := s.dev.auditElapsed } = s.dev ∧
        (m = 0 ∨ s.dev.power = .windingDown → d'.tickAdvance.auditElapsed = 0)

/-- R59: PROVISION KEYS on a BLANK key store stages the key, whatever its value, queues its write as ORDINARY and makes the
state STORING, and winding down cannot end while that write is queued; on another key store it is answered LOCKED. A
payload that is not 16 bytes is refused INVALID, and in STANDBY the command is answered ASLEEP. -/
def Obligations.ProvisionKeysResult : Prop :=
  ∀ (f : Frame) (s : State), f.link = .system → f.payload.length ≤ 96 → s.dev.resetCarry = false →
    Completes (.provisionKeys f) s fun d' =>
      if s.dev.power = .standby then OnlyAnswers s.dev d' f .asleep 0x2C
      else if f.payload.length = 16 then
        match s.dev.keyStore with
        | .blank => ∃ k : Key,
            beBytes 4 k.k0.toNat ++ beBytes 4 k.k1.toNat ++ beBytes 4 k.k2.toNat ++ beBytes 4 k.k3.toNat = f.payload ∧
            Replies s.dev d' .system (clocked f) .accepted 0x2C [] ∧ d'.keyStore = .storing k ∧ d'.ready = false ∧
            ((∀ w ∈ s.dev.store.queue, w.write.item ≠ .key) →
              d'.store.queue = s.dev.store.queue ++ [⟨.key k, false⟩]) ∧
            { quiet s.dev d' .system with
              keyStore := .blank
              store := { d'.store with queue := s.dev.store.queue } } = s.dev
        | .storing _ | .provisioned _ => OnlyAnswers s.dev d' f .locked 0x2C
      else OnlyAnswers s.dev d' f .invalid 0x2C

/-! ## The commands of printing and of the operator -/

/-- R96, R40, R42: FLUSH answers once for each slot of its set. For one slot it requests a DEBIT with the link's origin. A
VACANT slot is answered NO_CARTRIDGE; a slot with nothing to post, or one whose debits are stopped, ACCEPTED with
nothing listed and DONE for the System; else the DEBIT is listed at the end, ACCEPTED, or merged into the listed one,
MERGED. -/
def Obligations.FlushResult : Prop :=
  (∀ (f : Frame) (s : State) (set : Byte), Takes s.dev → f.payload = [set] →
     Completes (.flush f) s fun d' =>
       (d'.port f.link).reply.result = .ok ∧ (d'.port f.link).reply.echo = 0x04 ∧
       (d'.port f.link).reply.payload.length = ((List.finRange 8).filter fun i : SlotNo => set.getLsbD i.val).length) ∧
  ∀ (f : Frame) (s : State) (i : SlotNo) (o : Origins), Takes s.dev → f.payload = [BitVec.ofNat 8 (2 ^ i.val)] →
    o = (if f.link = .engine then Origins.ofEngine else Origins.ofSystem) →
    Completes (.flush f) s fun d' =>
      let slot := s.dev.slot i
      let stopped : Prop := slot.flags.rollback = true ∨ slot.flags.mismatch = true ∨
        (slot.meter.pending = 0 ∧ slot.meter.uncertain = none)
      let urgent : Bool := decide (s.dev.power = .windingDown) && s.dev.eligibleFor .debit i Wanted.empty
      (slot.admission = .vacant →
        Replies s.dev d' f.link (clocked f) .ok 0x04 [0x05] ∧ quiet s.dev d' f.link = s.dev) ∧
      (slot.admission ≠ .vacant → s.dev.findEntry .debit i = none → stopped →
        Replies s.dev d' f.link (clocked f) .ok 0x04 [0x01] ∧ d'.slots = s.dev.slots ∧ d'.work = s.dev.work ∧
        (f.link = .engine → SameEvents s.dev d') ∧ (f.link = .system → RaisesOnly s.dev d' (.slot .done i) 0)) ∧
      (slot.admission ≠ .vacant → s.dev.findEntry .debit i = none → ¬stopped →
        Replies s.dev d' f.link (clocked f) .ok 0x04 [0x01] ∧
        d'.work = s.dev.work ++ [⟨.onSlot .debit i slot.insertion, o, urgent, Wanted.empty⟩] ∧
        { quiet s.dev d' f.link with work := s.dev.work } = s.dev) ∧
      ∀ e, slot.admission ≠ .vacant → s.dev.findEntry .debit i = some e → ¬stopped →
        Replies s.dev d' f.link (clocked f) .ok 0x04 [0x02] ∧
        d'.work.map Entry.job = s.dev.work.map Entry.job ∧
        (d'.findEntry .debit i).map Entry.origins = some (e.origins.union o) ∧
        { quiet s.dev d' f.link with work := s.dev.work } = s.dev

/-- R76, R169: a JET TALLY answers how many of its records were taken and which positions it skipped, in every power
state, and leaves the device in RUN. R74, R77, R78, R83, R91: one of one record in RUN is metered whole into its slot
under the effective weights: as orphan ink with ORPHAN on a VACANT slot, else into the residue, the metered amount and
pending, with LEAK where the gate is closed. R87, R95: the new remaining ink is classed; pending at the debit step, or a
class that becomes CRITICAL, DRY or SPENT and more severe, lists a DEBIT; and at LOW supply the slot's carry is queued
again. A record of no ink changes nothing. R76, R93: a tally is its first records, then what the System Link reads after them
if it reads there, then its other records, each a tally of its own but for the reply on the Engine Link; so a read between two
records sees the first's effect and not the second's, at any place and with others before and after it. A refused tally takes
no read. That the reads between the records are operands of the tally is log entry 39. -/
def Obligations.JetTallyResult : Prop :=
  (∀ (f : Frame) (reads : List TallyRead) (s : State) (rs : List TallyRecord), f.link = .engine → s.dev.resetCarry = false →
     f.payload.length ≤ 96 → readTally f.payload = some rs →
     Completes (.jetTally ⟨f, reads⟩) s fun d' =>
       d'.engine.reply.result = .ok ∧ d'.engine.reply.echo = 0x10 ∧ d'.power = .run ∧
       ∃ skipped : Byte, d'.engine.reply.payload =
           [BitVec.ofNat 8 (rs.filter fun r => decide (r.slot.toNat < 8)).length, skipped] ∧
         ∀ k, k < 8 → skipped.getLsbD k = (match rs[k]? with | some r => decide (8 ≤ r.slot.toNat) | none => false)) ∧
  (∀ (f : Frame) (s : State) (i : SlotNo) (nF nN nC : Nat), f.link = .engine → Takes s.dev → s.dev.power = .run →
    nF < 16777216 → nN < 16777216 → nC < 16777216 →
    f.payload = slotByte i :: (beBytes 3 nF ++ beBytes 3 nN ++ beBytes 3 nC) →
    Completes (.jetTally ⟨f, []⟩) s fun d' =>
      let slot := s.dev.slot i
      let weight (nominal : Nat) : Nat :=
        max 1 (min 16383 (((nominal : Int) * (1024 + slot.config.trim) + 512) / 1024).toNat)
      let added := nF * weight slot.config.fine + nN * weight slot.config.normal + nC * weight slot.config.coarse
      Replies s.dev d' .engine (clocked f) .ok 0x10 [1, 0] ∧
      (added = 0 → quiet s.dev d' .engine = s.dev) ∧
      (0 < added → slot.admission = .vacant →
        RaisesOnly s.dev d' (.slot .orphan i) 0 ∧ OnlySlotAndEvents s.dev (quiet s.dev d' .engine) i ∧
        d'.slot i = { slot with
          orphanResidue := (slot.orphanResidue + added) % 16000000
          orphanCount := min 65535 (slot.orphanCount + (slot.orphanResidue + added) / 16000000) }) ∧
      (0 < added → slot.admission ≠ .vacant →
        Accumulates s.dev d' i added ∧
        (slot.gate.gate = .shut ∨ slot.gate.gate = .severed →
          holds d'.engine (.slot .leak i) = true ∧ holds d'.system (.slot .leak i) = true) ∧
        (slot.gate.gate = .opened ∨ slot.gate.gate = .draining →
          holds d'.engine (.slot .leak i) = holds s.dev.engine (.slot .leak i)))) ∧
  (∀ (f : Frame) (early late : List TallyRead) (read : Option TallyRead) (s : State) (first rest : List Byte)
      (ra rb : List TallyRecord), f.link = .engine → s.dev.resetCarry = false →
    f.payload = first ++ rest → readTally first = some ra → readTally rest = some rb → ra.length + rb.length ≤ 8 →
    (∀ x ∈ early, x.after < ra.length) → (∀ x ∈ read, x.after = ra.length) → (∀ x ∈ late, ra.length ≤ x.after) →
    ∃ t u v : State, exec (.jetTally ⟨{ f with payload := first }, early⟩) s = .next t ∧
      (match read with | none => u = t | some x => exec x.instr t = .next u) ∧
      exec (.jetTally ⟨{ f with payload := rest }, late.map fun x => { x with after := x.after - ra.length }⟩) u =
        .next v ∧
      Completes (.jetTally ⟨f, early ++ read.toList ++ late⟩) s fun d' =>
        quiet v.dev d' .engine = v.dev ∧ (late = [] → d'.system.reply = u.dev.system.reply)) ∧
  ∀ (f : Frame) (reads : List TallyRead) (s : State),
    f.link ≠ .engine ∨ s.dev.resetCarry = true ∨ readTally f.payload = none →
    exec (.jetTally ⟨f, reads⟩) s = exec (.jetTally ⟨f, []⟩) s

/-- R123: GATE ACK answers each position by its slot's gate, and every DRAINING gate it names becomes SHUT with its
grace timer stopped; nothing else of any slot changes but the lamps. -/
def Obligations.GateAckResult : Prop :=
  ∀ (f : Frame) (s : State), f.link = .engine → Takes s.dev → 1 ≤ f.payload.length → f.payload.length ≤ 8 →
    Completes (.gateAck f) s fun d' =>
      Replies s.dev d' .engine (clocked f) .ok 0x11 (f.payload.map (ackAnswer s.dev)) ∧
      (∀ i : SlotNo, { d'.slot i with lamp := (s.dev.slot i).lamp } =
        if slotByte i ∈ f.payload ∧ (s.dev.slot i).gate.gate = .draining then
          { s.dev.slot i with gate := { (s.dev.slot i).gate with gate := .shut, graceTimer := none } }
        else s.dev.slot i) ∧
      ∀ i : SlotNo, slotByte i ∈ f.payload → (s.dev.slot i).gate.gate = .draining →
        holds d'.engine (.slot .gate i) = true ∧ holds d'.system (.slot .gate i) = true

/-- R13, R36: what CHECK SLOT answers, by the slot's admission state; on a VACANT slot it changes nothing, and on every
other it leaves attention sensing ACTIVE. In IDENTIFYING and PROVING the System origin joins the listed IDENTIFY or PROVE,
or the one in flight. R14: on a slot that can make no progress it starts a re-check: the identity moves to held identity,
the verdict becomes NONE, and an IDENTIFY with the System origin is listed under the same insertion; the metering fields,
the merged mark, the flags and the insertion number stay. R50, R105: a sequence in flight on the slot is aborted first, with
a DEBIT's amount folded back under its record. -/
def Obligations.CheckSlotResult : Prop :=
  (∀ (f : Frame) (s : State) (i : SlotNo), f.link = .system → Takes s.dev → f.payload = [slotByte i] →
     Completes (.checkSlot f) s fun d' =>
       let joins (kind : WorkKind) : Prop :=
         match s.dev.findEntry kind i with
         | some e =>
           d'.findEntry kind i = some { e with origins := { e.origins with system := true } } ∧ d'.seq = s.dev.seq
         | none => d'.work = s.dev.work ∧ d'.seq = s.dev.seq.map fun q =>
           match q.job with
           | .scan => q
           | .onSlot k j _ => if k = kind ∧ j = i then { q with origins := { q.origins with system := true } } else q
       ((s.dev.slot i).admission ≠ .vacant → d'.sensing = .active) ∧
       match (s.dev.slot i).admission with
       | .vacant => OnlyAnswers s.dev d' f .noCartridge 0x26
       | .settling => Replies s.dev d' .system (clocked f) .busy 0x26 [] ∧ d'.slots = s.dev.slots ∧ d'.work = s.dev.work
       | .identifying =>
         Replies s.dev d' .system (clocked f) .merged 0x26 [] ∧ d'.slots = s.dev.slots ∧
         d'.work.map Entry.job = s.dev.work.map Entry.job ∧ joins .identify
       | .proving =>
         Replies s.dev d' .system (clocked f) .merged 0x26 [] ∧ d'.slots = s.dev.slots ∧
         d'.work.map Entry.job = s.dev.work.map Entry.job ∧ joins .prove
       | .admitted | .rejected | .mute =>
         if (s.dev.slot i).admission = .admitted ∧ (s.dev.slot i).verdict = .proven then
           Replies s.dev d' .system (clocked f)
             (if (s.dev.findEntry .prove i).isSome ∧ (s.dev.findEntry .poll i).isSome then .merged else .accepted) 0x26 [] ∧
           d'.slots = s.dev.slots ∧
           (∀ e, d'.findEntry .prove i = some e → e.origins.system = true) ∧ (d'.findEntry .prove i).isSome = true ∧
           (∀ e, d'.findEntry .poll i = some e → e.origins.system = true) ∧ (d'.findEntry .poll i).isSome = true
         else Replies s.dev d' .system (clocked f) .accepted 0x26 []) ∧
  ∀ (f : Frame) (s : State) (i : SlotNo), f.link = .system → Takes s.dev → f.payload = [slotByte i] →
    ((s.dev.slot i).admission = .rejected ∨ (s.dev.slot i).admission = .mute ∨
      ((s.dev.slot i).admission = .admitted ∧ (s.dev.slot i).verdict ≠ .proven)) →
    Completes (.checkSlot f) s fun d' =>
      Replies s.dev d' .system (clocked f) .accepted 0x26 [] ∧
      (d'.slot i).admission = .identifying ∧ (d'.slot i).verdict = .none ∧ (d'.slot i).identity = none ∧
      (d'.slot i).held = (s.dev.slot i).identity.or (s.dev.slot i).held ∧
      (d'.slot i).gate.causes = causesOf (d'.slot i) ∧ (d'.slot i).gate.causes.pending = true ∧
      (d'.slot i).merged = (s.dev.slot i).merged ∧
      (d'.slot i).flags = (s.dev.slot i).flags ∧ (d'.slot i).insertion = (s.dev.slot i).insertion ∧
      OtherSlots s.dev d' i ∧
      (∃ e, d'.findEntry .identify i = some e ∧ e.origins.system = true) ∧
      ((∀ q, s.dev.seq = some q → ∀ kind n, q.job ≠ .onSlot kind i n) →
        (d'.slot i).meter = (s.dev.slot i).meter ∧ d'.seq = s.dev.seq ∧
        (d'.slot i).lastSequence = (s.dev.slot i).lastSequence) ∧
      ∀ q, s.dev.seq = some q → ∀ kind n, q.job = .onSlot kind i n →
        d'.seq = none ∧ (d'.slot i).lastSequence = some ⟨kind, .aborted, q.step, q.attempts⟩ ∧
        (d'.slot i).busErrors = (s.dev.slot i).busErrors ∧ (d'.slot i).cartridge = (s.dev.slot i).cartridge ∧
        (s.dev.busIdle = false → d'.clockRested = false) ∧
        (q.origins.system = true → holds d'.system (.slot .done i) = true) ∧
        (d'.slot i).meter =
          if kind = .debit then
            { (s.dev.slot i).meter with
              pending := min 4294967295 ((s.dev.slot i).meter.pending + (s.dev.slot i).meter.inFlight.getD 0)
              inFlight := none
              uncertain := some ((s.dev.slot i).meter.uncertain.getD ⟨q.expected, q.amount⟩)
              saturated := (s.dev.slot i).meter.saturated ||
                decide (4294967295 < (s.dev.slot i).meter.pending + (s.dev.slot i).meter.inFlight.getD 0) }
          else (s.dev.slot i).meter

/-- R124, R122: FORCE GATE sets or clears the operator force. CLOSE makes an OPEN or DRAINING gate SEVERED and leaves a
closed one; RELEASE opens the gate where no other cause is left. Neither raises an event or counts a forced close. An
action that is neither is refused INVALID. -/
def Obligations.ForceGateResult : Prop :=
  ∀ (f : Frame) (s : State) (i : SlotNo) (a : Byte), f.link = .system → Takes s.dev →
    f.payload = [slotByte i, a] → GateOk (s.dev.slot i).gate → (s.dev.slot i).gate.causes = causesOf (s.dev.slot i) →
    Completes (.forceGate f) s fun d' =>
      let before := s.dev.slot i
      let after := d'.slot i
      (a ≠ 1 → a ≠ 2 → OnlyAnswers s.dev d' f .invalid 0x27) ∧
      (a = 1 ∨ a = 2 →
        Replies s.dev d' .system (clocked f) .ok 0x27 [] ∧ OnlySlot s.dev (quiet s.dev d' .system) i ∧
        { after with gate := before.gate, lamp := before.lamp } = before ∧
        after.gate.force = decide (a = 1) ∧ after.gate.causes = causesOf after ∧
        after.gate.forcedCloses = before.gate.forcedCloses ∧ after.gate.level = before.gate.level) ∧
      (a = 1 → after.gate.gate =
        if before.gate.gate = .opened ∨ before.gate.gate = .draining then .severed else before.gate.gate) ∧
      (a = 2 → after.gate.gate = if (causesOf after).any = false then .opened else before.gate.gate)

/-- R125: ACCEPT SUSPECT on a VACANT slot is refused NO_CARTRIDGE; on any other it sets the accepted-suspect flag, and
SUSPECT leaves the cause set. No flag is cleared. -/
def Obligations.AcceptSuspectResult : Prop :=
  ∀ (f : Frame) (s : State) (i : SlotNo), f.link = .system → Takes s.dev → f.payload = [slotByte i] →
    Completes (.acceptSuspect f) s fun d' =>
      let before := s.dev.slot i
      let after := d'.slot i
      if before.admission = .vacant then OnlyAnswers s.dev d' f .noCartridge 0x28
      else
        Replies s.dev d' .system (clocked f) .ok 0x28 [] ∧ OnlySlotAndEvents s.dev (quiet s.dev d' .system) i ∧
        { after with gate := before.gate, lamp := before.lamp } = before ∧
        after.gate.accepted = true ∧ after.gate.causes = causesOf after ∧ after.gate.causes.suspect = false

/-- R155: LAMP with a pattern or LOCATE shows it at once as an override; with AUTO it shows the automatic pattern at
once. A held change is dropped, and nothing else changes; an unknown setting is refused INVALID. -/
def Obligations.LampResult : Prop :=
  ∀ (f : Frame) (s : State) (i : SlotNo) (b : Byte), f.link = .system → Takes s.dev → f.payload = [slotByte i, b] →
    Completes (.lamp f) s fun d' =>
      let before := s.dev.slot i
      let shows (o : Override) (p : Pattern) (locate : Option Tick) : Prop :=
        Replies s.dev d' .system (clocked f) .ok 0x29 [] ∧ OnlySlot s.dev (quiet s.dev d' .system) i ∧
        d'.slot i = { before with lamp := { shown := p, target := p, override := o, locate := locate, held := false } }
      (b = 0x10 → shows .auto (autoPattern before) none) ∧
      (b = 0x11 → shows (.pattern .amberFast) .amberFast (some s.dev.tick)) ∧
      (∀ p : Pattern, b = p.code → shows (.pattern p) p none) ∧
      (8 < b.toNat → b ≠ 0x10 → b ≠ 0x11 → OnlyAnswers s.dev d' f .invalid 0x29)

/-! ## The power commands and the resets -/

/-- R167: STANDBY in RUN is ACCEPTED and winding down begins: every DEBIT entry that is eligible is urgent, and every slot
that can be debited and holds pending ink has one; that a slot whose removal timer runs has none that is urgent is log
entry 35. In WINDING DOWN it is answered BUSY and changes nothing. -/
def Obligations.StandbyResult : Prop :=
  ∀ (f : Frame) (s : State), f.link = .system → Takes s.dev → f.payload = [] →
    Completes (.standby f) s fun d' =>
      (s.dev.power = .windingDown → OnlyAnswers s.dev d' f .busy 0x30) ∧
      (s.dev.power = .run →
        Replies s.dev d' .system (clocked f) .accepted 0x30 [] ∧ d'.power = .windingDown ∧ d'.seq = s.dev.seq ∧
        d'.store = s.dev.store ∧ SameEvents s.dev d' ∧ d'.slots = s.dev.slots ∧
        (∀ e ∈ d'.work, e.isDebit = true → d'.eligible e = true → e.urgent = true) ∧
        ∀ i : SlotNo, (s.dev.slot i).admission = .admitted → (s.dev.slot i).verdict = .proven →
          (s.dev.slot i).flags.rollback = false → (s.dev.slot i).flags.mismatch = false →
          0 < (s.dev.slot i).meter.pending →
            ∃ e, d'.findEntry .debit i = some e ∧ ((s.dev.slot i).removalTimer = none → e.urgent = true))

/-- R169: WAKE in RUN is answered OK and changes nothing. In WINDING DOWN it returns the device to RUN with WOKEN and no
urgent entry, and re-checks no slot. In STANDBY it returns the device to RUN with WOKEN, wakes every lamp, and keeps the
slots of the wake-enable mask as they are. R16: each slot outside it is re-evaluated from its line, a seated slot whose line
is low by a re-check. -/
def Obligations.WakeResult : Prop :=
  ∀ (f : Frame) (s : State), f.link = .system → s.dev.resetCarry = false → f.payload = [] →
    Completes (.wake f) s fun d' =>
      Replies s.dev d' .system (clocked f) .ok 0x31 [] ∧ d'.power = .run ∧
      (s.dev.power = .run → quiet s.dev d' .system = s.dev) ∧
      (s.dev.power = .windingDown → RaisesOnly s.dev d' (.device .woken) 1 ∧ d'.slots = s.dev.slots ∧
        d'.work = s.dev.work.map fun e => { e with urgent := false }) ∧
      (s.dev.power = .standby →
        holds d'.engine (.device .woken) = true ∧ holds d'.system (.device .woken) = true ∧
        ∀ i : SlotNo, (d'.slot i).lamp.held = false ∧ (d'.slot i).lamp.shown = (d'.slot i).lamp.target ∧
          (s.dev.wakeMask.getLsbD i.val = true →
            { d'.slot i with lamp := (s.dev.slot i).lamp } = s.dev.slot i) ∧
          (s.dev.wakeMask.getLsbD i.val = false →
            ((s.dev.slot i).admission = .vacant → (s.dev.slot i).presenceLow = false →
              { d'.slot i with lamp := (s.dev.slot i).lamp } = s.dev.slot i) ∧
            ((s.dev.slot i).admission = .vacant → (s.dev.slot i).presenceLow = true →
              (d'.slot i).admission = .settling ∧ (d'.slot i).insertion = (s.dev.slot i).insertion + 1 ∧
              (d'.slot i).seatedAt = s.dev.tick ∧ (d'.slot i).settleTimer = some s.dev.tick ∧
              (d'.slot i).flags = Flags.empty ∧ (d'.slot i).merged = false ∧ holds d'.system (.slot .seated i) = true) ∧
            ((s.dev.slot i).admission = .settling → (s.dev.slot i).presenceLow = true →
              { d'.slot i with lamp := (s.dev.slot i).lamp } = { s.dev.slot i with settleTimer := some s.dev.tick }) ∧
            ((s.dev.slot i).admission ≠ .vacant → (s.dev.slot i).presenceLow = false →
              { d'.slot i with lamp := (s.dev.slot i).lamp } = { s.dev.slot i with removalTimer := some s.dev.tick }) ∧
            ((s.dev.slot i).admission.seated = true → (s.dev.slot i).presenceLow = true →
              (d'.slot i).admission = .identifying ∧ (d'.slot i).verdict = .none ∧ (d'.slot i).identity = none ∧
              (d'.slot i).held = (s.dev.slot i).identity.or (s.dev.slot i).held ∧
              (d'.slot i).insertion = (s.dev.slot i).insertion ∧
              ∃ e, d'.findEntry .identify i = some e ∧ e.origins.internal = true)))

/-- R172, R143: RESET PART is ACCEPTED; the device is in RUN with a carry in progress, and the entry of every slot with
its merged mark set that is not VACANT has a CARRY write queued with the content of R136. -/
def Obligations.ResetPartResult : Prop :=
  ∀ (f : Frame) (s : State), f.link = .system → Takes s.dev → f.payload = [] →
    Completes (.resetPart f) s fun d' =>
      Replies s.dev d' .system (clocked f) .accepted 0x32 [] ∧ d'.resetCarry = true ∧ d'.power = .run ∧
      d'.seq = s.dev.seq ∧ (∀ e ∈ d'.work, e.urgent = true → s.dev.power = .run) ∧
      (∀ i : SlotNo, account (d'.slot i) = account (s.dev.slot i) ∧
        (d'.slot i).admission = (s.dev.slot i).admission) ∧
      ∀ (i : SlotNo) (id : Identity),
        (∀ j : SlotNo, j ≠ i → (s.dev.slot j).holdsSerial id.serial = false) →
        (s.dev.slot i).admission ≠ .vacant → (s.dev.slot i).merged = true →
        (s.dev.slot i).writtenIdentity = some id → (s.dev.store.lookup id.serial).isSome = true →
          Queues s.dev s.dev d' i true none

/-- R171, R172: a power-on reset and a RESET pin reset act whatever the device is doing, with the lines found at their end.
A cartridge that gained power while the reset lasted has its attention items clear (R27), and every other stays as it was.
With the Store Queue empty and no sequence in flight, the reset of a RESET PART acts. The order of the events raised is log
entries 24 and 36, SB_DAT high after the reset log entry 7, and the cartridges as an operand log entry 20. That
RESET_PART_ACTS changes nothing while a write or a sequence is left, or no carry is in progress, is the model's choice (log
entries 17 and 3). -/
def Obligations.ResetResult : Prop :=
  (∀ (l : ResetLines) (s : State), l.wf = true →
     let found (d' : Device) : Prop := ∀ i : SlotNo,
       (d'.slot i).serviceHigh = l.serviceHigh.getLsbD i.val ∧ (d'.slot i).presenceLow = l.presenceLow.getLsbD i.val ∧
       (∀ m, (i, m) ∈ l.powered → (d'.slot i).cartridge = some ⟨m, false, false, .none⟩) ∧
       ((∀ m, (i, m) ∉ l.powered) → (d'.slot i).cartridge = (s.dev.slot i).cartridge)
     Completes (.powerOn l) s (fun d' =>
       AfterReset s.dev d' 1 l.supplyAtRising (fun i => l.presenceLow.getLsbD i.val) ∧ found d') ∧
     Completes (.resetPin l) s (fun d' =>
       AfterReset s.dev d' 2 l.supplyAtRising (fun i => l.presenceLow.getLsbD i.val) ∧ found d')) ∧
  ∀ (b : Bool) (s : State),
    Completes (.resetPartActs b) s fun d' =>
      if s.dev.resetCarry = true ∧ s.dev.store.queue = [] ∧ s.dev.store.writing = none ∧ s.dev.seq = none then
        AfterReset s.dev d' 4 b (fun i => (s.dev.slot i).presenceLow) ∧
        ∀ i : SlotNo, (d'.slot i).serviceHigh = (s.dev.slot i).serviceHigh ∧
          (d'.slot i).presenceLow = (s.dev.slot i).presenceLow ∧ (d'.slot i).cartridge = (s.dev.slot i).cartridge
      else d' = s.dev

/-- R168, R15, R156: when ready holds, the device enters STANDBY: every lamp is DARK with nothing held, and every slot
outside the wake-enable mask has its settle and removal timers stopped. No event is raised, and listed entries stay. That the
command changes nothing where ready does not hold is the model's choice (log entries 17 and 3). -/
def Obligations.EnterStandbyResult : Prop :=
  ∀ s : State,
    Completes .enterStandby s fun d' =>
      (s.dev.ready = false → d' = s.dev) ∧
      (s.dev.ready = true →
        s.dev.seq = none ∧ s.dev.store.queue = [] ∧ d'.power = .standby ∧ d'.measure = .stopped ∧
        SameEvents s.dev d' ∧ d'.work = s.dev.work ∧ d'.store = s.dev.store ∧
        ∀ i : SlotNo, d'.slot i = { s.dev.slot i with
          settleTimer := if s.dev.wakeMask.getLsbD i.val = true then (s.dev.slot i).settleTimer else none
          removalTimer := if s.dev.wakeMask.getLsbD i.val = true then (s.dev.slot i).removalTimer else none
          lamp := { (s.dev.slot i).lamp with shown := .dark, held := false } })

/-! ## The presence lines and the slot timers -/

/-- R5 to R7, R15: a falling edge starts an insertion on a VACANT slot in RUN, restarts a settle, and stops the removal
timer of a seated slot; a rising edge starts the removal timer of a settling or seated slot and stops its settle
timer. On a frozen slot an edge only moves the line. R27: a cartridge that a falling edge brings has its attention items
clear, and an exchange begun with the one before it has no reply prepared and no request received whole. That a falling edge
may bring a cartridge is log entry 19, and that an edge to the level the line has changes nothing is the model's choice (log
entry 3). -/
def Obligations.PresenceEdgeResult : Prop :=
  (∀ (i : SlotNo) (c : Option CartridgeMemory) (s : State),
     Completes (.fallingEdge i c) s fun d' =>
       let before := s.dev.slot i
       let lowered : Slot := { before with
         presenceLow := true
         cartridge := match c with | some m => some ⟨m, false, false, .none⟩ | none => before.cartridge }
       let met (q : Sequence) : Sequence := { q with
         prepared := match q.job with | .scan => q.prepared | .onSlot _ j _ => if j = i then none else q.prepared
         phase := match q.phase with
           | .sending whole selected => .sending (whole &&& ~~~(1#8 <<< i.val)) selected
           | .claimed _ | .selecting _ _ | .waiting _ | .receiving _ | .scanning _ | .idle _ => q.phase }
       let seq := if c.isSome = true then s.dev.seq.map met else s.dev.seq
       (before.presenceLow = true → d' = s.dev) ∧
       (before.presenceLow = false → s.dev.power ≠ .standby → d'.seq = seq) ∧
       (before.presenceLow = false → s.dev.frozen i = true →
         OnlySlot s.dev { d' with seq := s.dev.seq } i ∧ d'.slot i = lowered ∧ d'.seq = seq) ∧
       (before.presenceLow = false → s.dev.frozen i = false →
         (before.admission = .settling → OnlySlot s.dev { d' with seq := s.dev.seq } i ∧
           d'.slot i = { lowered with settleTimer := some s.dev.tick, removalTimer := none }) ∧
         (before.admission.seated = true → OnlySlot s.dev { d' with seq := s.dev.seq } i ∧
           d'.slot i = { lowered with removalTimer := none }) ∧
         (before.admission = .vacant → d'.power = .run ∨ (d'.power = s.dev.power ∧ s.dev.wakeEnabled i = false)) ∧
         (before.admission = .vacant →
           (d'.slot i).admission = .settling ∧ (d'.slot i).seatedAt = s.dev.tick ∧
           (d'.slot i).insertion = before.insertion + 1 ∧ (d'.slot i).flags = Flags.empty ∧
           (d'.slot i).merged = false ∧ (d'.slot i).proofCount = 0 ∧ (d'.slot i).lastProof = none ∧
           (d'.slot i).held = none ∧ (d'.slot i).gate.accepted = false ∧ (d'.slot i).settleTimer = some s.dev.tick ∧
           (d'.slot i).removalTimer = none ∧ (d'.slot i).presenceLow = true ∧
           (d'.slot i).cartridge = lowered.cartridge ∧ (d'.slot i).meter = before.meter ∧
           (d'.slot i).gate.causes.pending = true ∧ (d'.slot i).gate.causes.vacant = false ∧
           holds d'.system (.slot .seated i) = true ∧ d'.sensing = .active))) ∧
  ∀ (i : SlotNo) (s : State),
    Completes (.risingEdge i) s fun d' =>
      let before := s.dev.slot i
      OnlySlot s.dev d' i ∧
      d'.slot i =
        if before.presenceLow = false then before
        else if s.dev.frozen i = true ∨ before.admission = .vacant then { before with presenceLow := false }
        else { before with presenceLow := false, settleTimer := none, removalTimer := some s.dev.tick }

/-- R6: when the settle timer has run 200 ms, the slot becomes IDENTIFYING with debounced level LOW, and an IDENTIFY with
origin INTERNAL and the current insertion number is listed. That nothing happens before that is the model's choice (log
entry 3). -/
def Obligations.SettleExpiryResult : Prop :=
  ∀ (i : SlotNo) (s : State) (start : Tick), (s.dev.slot i).admission = .settling →
    (s.dev.slot i).settleTimer = some start → s.dev.findEntry .identify i = none →
    Completes (.settleExpiry i) s fun d' =>
      if elapsed s.dev.tick start < 200 then d' = s.dev
      else
        (d'.slot i).admission = .identifying ∧ (d'.slot i).debouncedLow = true ∧ (d'.slot i).settleTimer = none ∧
        (d'.slot i).insertion = (s.dev.slot i).insertion ∧ (d'.slot i).meter = (s.dev.slot i).meter ∧
        OtherSlots s.dev d' i ∧ d'.store = s.dev.store ∧
        d'.work = s.dev.work ++
          [⟨.onSlot .identify i (s.dev.slot i).insertion, Origins.ofInternal, false, Wanted.empty⟩]

/-- R8: the confirmed removal of a seated slot, after 20 ms, captures removed-at, ends the slot's sequence and entries,
clears its metering fields, identity and verdict, makes it VACANT with debounced level HIGH, and raises REMOVED on both
lists. R6: in SETTLING the same timer abandons the settle: the slot is VACANT under the same insertion number, with no
REMOVED and removed-at as it was. That an expiry before 20 ms changes nothing is the model's choice (log entry 3). -/
def Obligations.RemovalExpiryResult : Prop :=
  ∀ (i : SlotNo) (s : State) (start : Tick), (s.dev.slot i).admission ≠ .vacant →
    (s.dev.slot i).removalTimer = some start →
    Completes (.removalExpiry i) s fun d' =>
      if elapsed s.dev.tick start < 20 then d' = s.dev
      else
        (d'.slot i).admission = .vacant ∧ (d'.slot i).meter = Meter.vacant ∧ (d'.slot i).identity = none ∧
        (d'.slot i).settleTimer = none ∧ (d'.slot i).removalTimer = none ∧
        (d'.slot i).insertion = (s.dev.slot i).insertion ∧ (d'.slot i).flags = (s.dev.slot i).flags ∧
        (d'.slot i).gate.level = .normal ∧ (d'.slot i).gate.causes = causesOf (d'.slot i) ∧
        (∀ e ∈ d'.work, e.isOn i = false) ∧
        (s.dev.power = .run ∨ (s.dev.slot i).admission = .settling →
          OtherSlots s.dev d' i ∧ d'.work = s.dev.work.filter (fun e => !e.isOn i)) ∧
        ((s.dev.slot i).admission = .settling →
          (d'.slot i).removedAt = (s.dev.slot i).removedAt ∧ d'.power = s.dev.power ∧
          holds d'.system (.slot .removed i) = holds s.dev.system (.slot .removed i)) ∧
        ((s.dev.slot i).admission ≠ .settling →
          (d'.slot i).removedAt = some s.dev.tick ∧ (d'.slot i).debouncedLow = false ∧ (d'.slot i).held = none ∧
          (d'.slot i).verdict = .none ∧ (s.dev.wakeEnabled i = true → d'.power = .run) ∧
          (∀ q kind n, d'.seq = some q → q.job ≠ .onSlot kind i n) ∧
          holds d'.system (.slot .removed i) = true ∧ holds d'.engine (.slot .removed i) = true)

/-- R8, steps 3 and 4, R105, R141: at a removal the carry takes the slot's account, an aborted DEBIT folded back into it with
its uncertain record, as CARRY while the supply is LOW or a RESET PART carry is in progress. R135: it goes to the place of the
serial's entry, else to the lowest blank place, else to that of the entry evicted, with HISTORY LOSS where that entry holds
unposted ink. Of two places that hold the serial the lower is its own (log entry 38). A slot whose merged mark is clear writes
nothing. -/
def Obligations.RemovalCarriesTheAccount : Prop :=
  ∀ (i : SlotNo) (s : State) (start : Tick), (s.dev.slot i).admission.seated = true →
    s.dev.power = .run → (s.dev.slot i).removalTimer = some start → 20 ≤ elapsed s.dev.tick start →
    Completes (.removalExpiry i) s fun d' =>
      ((s.dev.slot i).merged = false → d'.store = s.dev.store) ∧
      ((s.dev.slot i).merged = true →
        ((∀ q n, s.dev.seq = some q → q.job ≠ .onSlot .debit i n) →
          Queues s.dev s.dev d' i (decide (s.dev.supply = .low) || s.dev.resetCarry) none) ∧
        ∀ q n, s.dev.seq = some q → q.job = .onSlot .debit i n →
          Queues s.dev
            (s.dev.updMeter i fun m => { m with uncertain := some (m.uncertain.getD ⟨q.expected, q.amount⟩) }) d' i
            (decide (s.dev.supply = .low) || s.dev.resetCarry) none)

/-- R120: when the grace timer of a DRAINING gate expires, the gate becomes SEVERED, the forced-close count advances to
255 at most, and GATE is raised on both lists. That nothing happens before that, or in another gate state, is the model's
choice (log entry 3). -/
def Obligations.GraceExpiryResult : Prop :=
  ∀ (i : SlotNo) (s : State), GateOk (s.dev.slot i).gate →
    Completes (.graceExpiry i) s fun d' =>
      let before := s.dev.slot i
      (before.gate.gate ≠ .draining → d' = s.dev) ∧
      ∀ t, before.gate.graceTimer = some t →
        if elapsed s.dev.tick t.start < t.length then d' = s.dev
        else
          RaisesOnly s.dev d' (.slot .gate i) 0 ∧ OnlySlotAndEvents s.dev d' i ∧
          { d'.slot i with lamp := before.lamp } =
            { before with gate := { before.gate with
              gate := .severed, graceTimer := none, forcedCloses := min 255 (before.gate.forcedCloses + 1) } }

/-- R154, R155, R156: at a lamp frame boundary every held change is shown and the holds end; when 5,000 ms of LOCATE are
over, the override becomes AUTO and the automatic pattern shows at once, in STANDBY as DARK. A boundary that a tick has
brought and that is still to be taken is the model's own (boundaryDue, log entry 5), and that an expiry which is not due
changes nothing is its choice (log entry 3). -/
def Obligations.LampTimers : Prop :=
  (∀ s : State,
    Completes .lampFrameBoundary s fun d' =>
      (s.dev.boundaryDue = false → d' = s.dev) ∧
      (s.dev.boundaryDue = true →
        { d' with slots := s.dev.slots, boundaryDue := true } = s.dev ∧ d'.boundaryDue = false ∧
        ∀ i : SlotNo, d'.slot i = { s.dev.slot i with lamp := { (s.dev.slot i).lamp with
          shown := if (s.dev.slot i).lamp.held = true then (s.dev.slot i).lamp.target else (s.dev.slot i).lamp.shown
          held := false } })) ∧
  ∀ (i : SlotNo) (s : State),
    Completes (.locateExpiry i) s fun d' =>
      ((s.dev.slot i).lamp.locate = none → d' = s.dev) ∧
      ∀ start, (s.dev.slot i).lamp.locate = some start →
        if elapsed s.dev.tick start < 5000 then d' = s.dev
        else OnlySlot s.dev d' i ∧ d'.slot i = { s.dev.slot i with lamp :=
          { shown := if s.dev.power = .standby then .dark else autoPattern (s.dev.slot i)
            target := autoPattern (s.dev.slot i), override := .auto, locate := none, held := false } }

/-! ## Service lines and the Time Base -/

/-- R80, R81, R83, R91: the ink of a stroke, and of a millisecond of an open valve, is metered into the slot as one addition,
into the residue, the metered amount and pending; on a VACANT slot as orphan ink. R87, R95: the class follows, and a DEBIT is
listed at the debit step and at a class that becomes CRITICAL, DRY or SPENT and more severe; at LOW supply and in a RESET PART
carry the slot's carry is queued again. Neither raises LEAK, and a volume or flow of 0 adds nothing. The milliseconds that a
slot owes, and that one owed outside VALVE mode adds nothing, are the model's (valveDue, log entry 5). -/
def Obligations.ServiceInkResult : Prop :=
  ∀ (i : SlotNo) (s : State),
    let slot := s.dev.slot i
    let adds (quanta : Nat) (d' : Device) : Prop :=
      holds d'.engine (.slot .leak i) = holds s.dev.engine (.slot .leak i) ∧
      (slot.admission ≠ .vacant → Accumulates s.dev d' i quanta) ∧
      (slot.admission = .vacant →
        RaisesOnly s.dev d' (.slot .orphan i) 0 ∧ OnlySlotAndEvents s.dev d' i ∧
        (d'.slot i).meter = slot.meter ∧ (d'.slot i).admission = .vacant ∧
        (d'.slot i).orphanResidue = (slot.orphanResidue + quanta) % 16000000 ∧
        (d'.slot i).orphanCount =
          min 65535 (slot.orphanCount + (slot.orphanResidue + quanta) / 16000000))
    (slot.config.mode = .stroke → slot.lineActive = false →
      Completes (.stroke i) s fun d' => (d'.slot i).lineActive = true ∧
        (slot.config.stroke = 0 →
          OnlySlot s.dev d' i ∧ d'.slot i = { slot with serviceHigh := !slot.serviceHigh }) ∧
        (0 < slot.config.stroke → adds (slot.config.stroke * 16000) d')) ∧
    (0 < slot.valveDue →
      Completes (.valveMillisecond i) s fun d' => (d'.slot i).valveDue = slot.valveDue - 1 ∧
        (slot.config.mode ≠ .valve ∨ slot.config.flow = 0 →
          OnlySlot s.dev d' i ∧ d'.slot i = { slot with valveDue := slot.valveDue - 1 }) ∧
        (slot.config.mode = .valve → 0 < slot.config.flow → adds (slot.config.flow * 16000) d'))

/-- R79, R82: the trailing edge of a VALVE active period requests a DEBIT if pending is above 0, and only moves the line
otherwise; every other edge of a service line only moves the line. -/
def Obligations.ServiceLineResult : Prop :=
  ∀ (i : SlotNo) (s : State),
    let slot := s.dev.slot i
    (slot.valveOpen = true →
      Completes (.trailingEdge i) s fun d' =>
        (d'.slot i).valveOpen = false ∧ (d'.slot i).serviceHigh = !slot.serviceHigh ∧
        (d'.slot i).meter = slot.meter ∧ OtherSlots s.dev d' i ∧
        (slot.meter.pending = 0 →
          OnlySlot s.dev d' i ∧ d'.slot i = { slot with serviceHigh := !slot.serviceHigh }) ∧
        (0 < slot.meter.pending → slot.flags.rollback = false → slot.flags.mismatch = false →
          slot.admission ≠ .vacant → ∃ e, d'.findEntry .debit i = some e ∧ e.origins.internal = true)) ∧
    ∀ high : Bool, slot.serviceHigh ≠ high →
      (slot.config.mode = .off ∨ (slot.config.mode = .stroke ∧ high ≠ slot.config.polarity.active) ∨
        (slot.config.mode = .valve ∧ high = slot.config.polarity.active)) →
      Completes (.serviceLineLevel i high) s fun d' =>
        OnlySlot s.dev d' i ∧ d'.slot i = { slot with serviceHigh := high }

/-- R1, R2, R69: a tick advances the tick count modulo 2^32 and the lamp frame phase, which returns to 0 at 1,000; the
audit elapsed time advances in RUN alone; and each slot with an active VALVE line owes a millisecond. That a tick on an idle
bus counts as SB_CLK having rested low for the 1 ms of R30, up to a millisecond early, is the model's choice (clockRested, log
entry 30). The boundary and the milliseconds owed, and the audit time that waits at its limit for its expiry, are log entry 5.
That a request under way is sent to its end by the tick is log entry 4. -/
def Obligations.TickResult : Prop :=
  ∀ s : State, s.dev.framePhase < 1000 →
    Completes .tickCountAdvance s fun d' =>
      d'.tick.toNat = (s.dev.tick.toNat + 1) % 4294967296 ∧ d'.framePhase = (s.dev.framePhase + 1) % 1000 ∧
      (s.dev.framePhase = 999 → d'.boundaryDue = true) ∧
      (s.dev.framePhase ≠ 999 → d'.boundaryDue = s.dev.boundaryDue) ∧
      (s.dev.power = .run → s.dev.auditElapsed < s.dev.auditPeriod * 60000 →
        d'.auditElapsed = s.dev.auditElapsed + 1) ∧
      (s.dev.power ≠ .run → d'.auditElapsed = s.dev.auditElapsed) ∧
      d'.clockRested = s.dev.busIdle ∧
      (∀ i : SlotNo, { d'.slot i with cartridge := (s.dev.slot i).cartridge } = { s.dev.slot i with
        valveDue := (s.dev.slot i).valveDue + if (s.dev.slot i).valveOpen = true then 1 else 0 }) ∧
      { d' with
        tick := s.dev.tick, framePhase := s.dev.framePhase, boundaryDue := s.dev.boundaryDue
        auditElapsed := s.dev.auditElapsed, clockRested := s.dev.clockRested, seq := s.dev.seq
        slots := s.dev.slots } = s.dev ∧
      ((∀ q whole, s.dev.seq = some q → q.phase ≠ .claimed whole ∧
          ∀ selected, q.phase ≠ .selecting whole selected ∧ q.phase ≠ .sending whole selected) →
        d'.seq = s.dev.seq ∧ ∀ i : SlotNo, (d'.slot i).cartridge = (s.dev.slot i).cartridge) ∧
      ∀ q whole scanned, s.dev.seq = some q →
        ((q.phase = .claimed whole ∧ scanned = s.dev.identified8) ∨ q.phase = .selecting whole scanned ∨
          q.phase = .sending whole scanned) →
        ∃ q', d'.seq = some q' ∧
          { q' with step := q.step, phase := q.phase, prepared := q.prepared } = q ∧
          (∀ kind i n, q.job = .onSlot kind i n → Sent s.dev d' q' kind i (whole.getLsbD i.val)) ∧
          (q.job = .scan → ScanSent s.dev d' q' scanned whole)

/-- R70: when the audit expires, each ADMITTED slot with verdict PROVEN has a PROVE and a POLL with origin AUDIT, the
elapsed time is 0, and entries of other slots stay as they were. With a period of 0 it never does (R69). The elapsed time
waits at its limit for the expiry to be taken (log entry 5), and that an expiry which is not due changes nothing is the
model's choice (log entry 3). -/
def Obligations.AuditExpiryResult : Prop :=
  ∀ s : State,
    Completes .auditExpiry s fun d' =>
      if s.dev.auditPeriod = 0 ∨ s.dev.auditElapsed < s.dev.auditPeriod * 60000 then d' = s.dev
      else
        { d' with work := s.dev.work, auditElapsed := s.dev.auditElapsed } = s.dev ∧ d'.auditElapsed = 0 ∧
        ∀ i : SlotNo,
          ((s.dev.slot i).admission = .admitted → (s.dev.slot i).verdict = .proven →
            (∃ e, d'.findEntry .prove i = some e ∧ e.origins.audit = true) ∧
            ∃ e, d'.findEntry .poll i = some e ∧ e.origins.audit = true) ∧
          (¬((s.dev.slot i).admission = .admitted ∧ (s.dev.slot i).verdict = .proven) →
            d'.work.filter (fun e => e.isOn i) = s.dev.work.filter (fun e => e.isOn i))

/-! ## The supply and the store -/

/-- R170, R142: the fall of the supply makes the state LOW, raises SUPPLY on both lists and queues a CARRY write for
every slot with its merged mark set that is not VACANT, with the content of R136; its rise makes the state NORMAL and raises
SUPPLY. R169: in STANDBY its fall is a wake cause. -/
def Obligations.SupplyResult : Prop :=
  (∀ s : State, s.dev.supply = .normal → s.dev.power ≠ .standby →
    Completes .supplyLow s fun d' =>
      d'.supply = .low ∧ d'.power = s.dev.power ∧ holds d'.engine (.device .supply) = true ∧
      holds d'.system (.device .supply) = true ∧ d'.work = s.dev.work ∧ d'.seq = s.dev.seq ∧
      (∀ i : SlotNo, account (d'.slot i) = account (s.dev.slot i)) ∧
      ∀ (i : SlotNo) (id : Identity),
        (∀ j : SlotNo, j ≠ i → (s.dev.slot j).holdsSerial id.serial = false) →
        (s.dev.slot i).admission ≠ .vacant → (s.dev.slot i).merged = true →
        (s.dev.slot i).writtenIdentity = some id → (s.dev.store.lookup id.serial).isSome = true →
          Queues s.dev s.dev d' i true none) ∧
  (∀ s : State, s.dev.supply = .normal → s.dev.power = .standby →
    Completes .supplyLow s fun d' =>
      d'.supply = .low ∧ d'.power = .run ∧ holds d'.engine (.device .woken) = true ∧
      holds d'.engine (.device .supply) = true) ∧
  ∀ s : State, s.dev.supply = .low →
    Completes .supplyNormal s fun d' =>
      RaisesOnly s.dev d' (.device .supply) 2 ∧ d'.supply = .normal ∧
      { d' with
        supply := .low
        engine := { d'.engine with events := s.dev.engine.events }
        system := { d'.system with events := s.dev.system.events } } = s.dev

/-- R131, R132, R60: with no write in progress, the CARRY write queued first, or else the write queued first, leaves the
queue and starts, into the spare copy of its item. After 5 ms a read-back that agrees makes that copy the stored content and
the copy stored before it the spare one, and the staged key the master key with HISTORY KEYS STORED. One that does not agree
has the write repeated once, and then dropped with HISTORY WRITE; the key store is then BLANK again. R61: while a slot is in
PROVING, that raises HISTORY KEYS ABSENT, if it has not been raised since the reset. What an uncommitted write has left in a
spare copy is given by no rule (log entry 15), and that each command changes nothing out of its occasion is the model's
choice (log entries 17 and 3). -/
def Obligations.StoreWriteResult : Prop :=
  let spare {α : Type} (x : Option α) : Spare α := match x with | none => .blank | some y => .holds y
  (∀ (s : State) (w : QueuedWrite), s.dev.store.writing = none → w ∈ s.dev.store.queue → QueueOk s.dev →
    (∀ x ∈ s.dev.store.queue, x.carry = true → w.carry = true) →
    (∀ before after, s.dev.store.queue = before ++ w :: after → ∀ x ∈ before, x.carry ≠ w.carry) →
    Completes .storeWriteStart s fun d' =>
      d'.store.writing = some ⟨w.write, s.dev.tick, false⟩ ∧
      d'.store.queue = s.dev.store.queue.filter (fun x => decide (x ≠ w)) ∧
      { d' with store := s.dev.store } = s.dev ∧ d'.store.entries = s.dev.store.entries ∧
      d'.store.header = s.dev.store.header ∧ d'.store.key = s.dev.store.key ∧
      d'.store.spareHeader =
        (match w.write with | .header _ => .unsettled | .entry _ _ | .key _ => s.dev.store.spareHeader) ∧
      d'.store.spareKey =
        (match w.write with | .key _ => .unsettled | .entry _ _ | .header _ => s.dev.store.spareKey) ∧
      ∀ p : Place, d'.store.spareEntries.get p =
        if w.write.item = .entry p then .unsettled else s.dev.store.spareEntries.get p) ∧
  (∀ s : State, s.dev.store.writing ≠ none ∨ s.dev.store.queue = [] →
    Completes .storeWriteStart s fun d' => d' = s.dev) ∧
  (∀ (s : State) (agrees : Bool) (w : WriteInProgress), s.dev.store.writing = some w →
    Completes (.storeWriteComplete agrees) s fun d' =>
      (elapsed s.dev.tick w.since < 5 → d' = s.dev) ∧
      (5 ≤ elapsed s.dev.tick w.since → agrees = true →
        d'.store.writing = none ∧ d'.store.queue = s.dev.store.queue ∧ d'.slots = s.dev.slots ∧
        (∀ h, w.write = .header h → d'.store.header = some h ∧ d'.store.spareHeader = spare s.dev.store.header ∧
          d'.store.entries = s.dev.store.entries ∧ d'.store.spareEntries = s.dev.store.spareEntries) ∧
        (∀ p e, w.write = .entry p e → d'.store.entries.get p = some e ∧
          d'.store.spareEntries.get p = spare (s.dev.store.entries.get p) ∧
          (∀ q, q ≠ p → d'.store.entries.get q = s.dev.store.entries.get q ∧
            d'.store.spareEntries.get q = s.dev.store.spareEntries.get q) ∧
          { d' with store := s.dev.store } = s.dev) ∧
        ∀ k, w.write = .key k → d'.store.key = some k ∧ d'.store.spareKey = spare s.dev.store.key ∧
          (s.dev.keyStore = .storing k → d'.keyStore = .provisioned k ∧ RaisesOnly s.dev d' (.device .history) 2)) ∧
      (5 ≤ elapsed s.dev.tick w.since → agrees = false →
        d'.store.entries = s.dev.store.entries ∧ d'.store.header = s.dev.store.header ∧
        d'.store.key = s.dev.store.key ∧ d'.store.spareEntries = s.dev.store.spareEntries ∧
        d'.store.spareHeader = s.dev.store.spareHeader ∧ d'.store.spareKey = s.dev.store.spareKey ∧
        d'.slots = s.dev.slots ∧
        (w.repeating = false →
          d'.store.writing = some ⟨w.write, s.dev.tick, true⟩ ∧ { d' with store := s.dev.store } = s.dev) ∧
        (w.repeating = true →
          d'.store.writing = none ∧ HistoryReason d' 3 ∧
          ∀ k, w.write = .key k → s.dev.keyStore = .storing k →
            d'.keyStore = .blank ∧
            (s.dev.keysAbsent = false → (∃ i : SlotNo, (s.dev.slot i).admission = .proving) →
              d'.keysAbsent = true ∧ HistoryReason d' 0) ∧
            (s.dev.keysAbsent = true ∨ (∀ i : SlotNo, (s.dev.slot i).admission ≠ .proving) →
              d'.keysAbsent = s.dev.keysAbsent)))) ∧
  ∀ (s : State) (agrees : Bool), s.dev.store.writing = none →
    Completes (.storeWriteComplete agrees) s fun d' => d' = s.dev

/-! ## The supply bus -/

/-- R32: when SB_DAT has been low for 200 µs on the idle bus, a SCAN with origin ATTENTION is listed, or joins the listed
one, and the level is not counted again. A change of level on the idle bus ends a measurement, and a low level starts one
while sensing is ACTIVE outside STANDBY. R30: a cartridge pulls SB_DAT on the idle bus while its attention is pending and not
signalled and SB_CLK has rested low for 1 ms; a seal that breaks sets the cartridge's SEAL mark and its attention, and nothing
of the device. That no level changes during an exchange is log entry 7, that a measurement running is long enough for
ATTENTION is log entry 30, and that a level which is not being measured lists nothing is log entry 3: the model's choices. -/
def Obligations.AttentionResult : Prop :=
  (∀ s : State,
    Completes .attention s fun d' =>
      (s.dev.measure ≠ .running → d' = s.dev) ∧
      (s.dev.measure = .running →
        d'.measure = .counted ∧ { d' with work := s.dev.work, measure := .running } = s.dev ∧
        (∃ e ∈ d'.work, e.job = .scan ∧ e.origins.attention = true) ∧
        d'.work.filter (fun e => decide (e.job ≠ .scan)) = s.dev.work.filter (fun e => decide (e.job ≠ .scan)) ∧
        ((∀ e ∈ s.dev.work, e.job ≠ .scan) →
          d'.work = s.dev.work ++ [⟨.scan, Origins.ofAttention, false, Wanted.empty⟩]))) ∧
  (∀ (line : DatLine) (low : Bool) (s : State),
    (∀ x, line = .read x → low = x) →
    (line = .asPulled → (low = true ↔ s.dev.clockRested = true ∧ ∃ (i : SlotNo) (c : Cartridge),
      (s.dev.slot i).cartridge = some c ∧ c.attentionPending = true ∧ c.attentionSignalled = false)) →
    Completes (.sbDatLevelChange line) s fun d' =>
      (s.dev.busIdle = false ∨ s.dev.datLow = low → d' = s.dev) ∧
      (s.dev.busIdle = true → s.dev.datLow ≠ low →
        { d' with datLow := s.dev.datLow, measure := s.dev.measure } = s.dev ∧ d'.datLow = low ∧
        d'.measure =
          if low = true ∧ s.dev.sensing = .active ∧ s.dev.power ≠ .standby then .running else .stopped)) ∧
  ∀ (i : SlotNo) (s : State),
    Completes (.sealSenseBroken i) s fun d' =>
      OnlySlot s.dev d' i ∧
      { d'.slot i with cartridge := (s.dev.slot i).cartridge } = s.dev.slot i ∧
      ((s.dev.slot i).cartridge = none → (d'.slot i).cartridge = none) ∧
      ∀ x, (s.dev.slot i).cartridge = some x →
        (d'.slot i).cartridge = if x.memory.sealBroken = true then some x else some
          { memory := { x.memory with sealBroken := true, marks := { x.memory.marks with sealMark := true } }
            attentionPending := true, attentionSignalled := false, attentionCause := .sealCause }

/-- R43, R53, R54, R97: with no sequence in flight and the supply NORMAL, the arbiter grants the first eligible entry
of the lowest class, in WINDING DOWN an urgent one alone. The entry leaves the list and its first attempt begins: a DEBIT
moves pending to in-flight, a PROVE spends a nonce, a MARK sends the wanted marks not known (R44). SB_DAT held low fails the
attempt at SELECTED, charges the slot and leaves a DEBIT's record (R25, R103). Else the request is sent, and the cartridge that
receives it whole carries it out and prepares its reply (R20, R27); a scan is sent to the slots with an identity (R33). How
far a claim comes within the step, and how it fares on the line, is an operand (log entries 4 and 13); the level that the
claim finds stays on SB_DAT (log entry 7); and that nothing happens where nothing may be granted is the model's choice (log
entry 17). -/
def Obligations.GrantResult : Prop :=
  ∀ (claim : Claim) (s : State),
    let can (x : Entry) : Prop :=
      s.dev.eligible x = true ∧ (s.dev.power = .run ∨ (s.dev.power = .windingDown ∧ x.grantClass = 2))
    Completes (.grant claim) s fun d' =>
      (s.dev.seq ≠ none ∨ s.dev.supply = .low ∨ s.dev.resetReady = true ∨ (∀ x ∈ s.dev.work, ¬can x) → d' = s.dev) ∧
      ∀ (before after : List Entry) (e : Entry),
        s.dev.seq = none → s.dev.supply = .normal → s.dev.resetReady = false → s.dev.work = before ++ e :: after →
        can e → (∀ x ∈ before, can x → e.grantClass < x.grantClass) → (∀ x ∈ after, can x → e.grantClass ≤ x.grantClass) →
        (∀ i n, e.job = .onSlot .debit i n → (s.dev.slot i).meter.inFlight = none ∧
          (s.dev.slot i).gate.level = levelOf (s.dev.slot i).meter (s.dev.slot i).gate) →
          d'.work = before ++ after ∧ d'.clockRested = false ∧
          { d' with
            work := s.dev.work, seq := none, slots := s.dev.slots, nonceCount := s.dev.nonceCount
            measure := s.dev.measure, datLow := s.dev.datLow, clockRested := s.dev.clockRested } = s.dev ∧
          ∃ q, d'.seq = some q ∧ q.job = e.job ∧ q.origins = e.origins ∧ q.urgent = e.urgent ∧ q.wanted = e.wanted ∧
            q.attempts = 1 ∧ q.reconciled = false ∧
            (claim = .held → q.step = some .selected ∧ q.phase = .idle s.dev.tick ∧ q.prepared = none ∧
              q.proveHold = none ∧ d'.datLow = true ∧ ∀ i : SlotNo, (d'.slot i).cartridge = (s.dev.slot i).cartridge) ∧
            (claim ≠ .held → Begins s.dev d' q claim) ∧ (∀ whole, claim = .claimed whole → q.step = none) ∧
            (e.job = .scan → d'.nonceCount = s.dev.nonceCount ∧
              ∀ i : SlotNo, { d'.slot i with cartridge := (s.dev.slot i).cartridge } = s.dev.slot i) ∧
            ∀ kind i n, e.job = .onSlot kind i n →
              OtherSlots s.dev d' i ∧
              { d'.slot i with
                meter := (s.dev.slot i).meter, busErrors := (s.dev.slot i).busErrors
                cartridge := (s.dev.slot i).cartridge } = s.dev.slot i ∧
              (d'.slot i).busErrors =
                (if claim = .held then min 255 ((s.dev.slot i).busErrors + 1) else (s.dev.slot i).busErrors) ∧
              (kind ≠ .debit → (d'.slot i).meter = (s.dev.slot i).meter) ∧
              d'.nonceCount = (if kind = .prove then s.dev.nonceCount + 1 else s.dev.nonceCount) ∧
              (kind = .mark → q.marksSent = e.wanted.minus (s.dev.slot i).knownMarks) ∧
              (∀ km id, kind = .prove → claim ≠ .held → s.dev.keyStore = .provisioned km →
                (s.dev.slot i).identity = some id → ∃ h, q.proveHold = some h ∧ Challenges s.dev i n km id h) ∧
              (kind = .debit →
                q.expected = (s.dev.slot i).meter.confirmed ∧ q.amount = (s.dev.slot i).meter.pending ∧
                (d'.slot i).meter =
                  { (s.dev.slot i).meter with
                    inFlight := some (s.dev.slot i).meter.pending, pending := 0
                    uncertain :=
                      if claim = .held ∧ n = (s.dev.slot i).insertion then
                        some ((s.dev.slot i).meter.uncertain.getD ⟨q.expected, q.amount⟩)
                      else (s.dev.slot i).meter.uncertain })

/-- R21, R25, R45, R103, R12: the ready signal within the reply window starts the reply. At the end of the window the
exchange fails with step REQUEST SENT and is charged to its slot: below three attempts the bus idles 2 ms and a further
attempt repeats the exchange; at three the sequence ends FAILED and a seated slot becomes MUTE, and R104: a DEBIT's in-flight
amount returns to pending with its record kept. A further attempt draws what the first did (R44, R64), and SB_DAT held low
fails it at SELECTED; R34: the third failure of a scan counts as spurious. A window's last millisecond allows both of its
events (log entry 18), an attempt and its request may be one step (log entry 4), and that each of the three events changes
nothing out of its time is the model's choice (log entry 3). -/
def Obligations.ReplyTimersResult : Prop :=
  (∀ (s : State) (q : Sequence) (kind : WorkKind) (i : SlotNo) (n : BitVec 8) (since : Tick),
    s.dev.seq = some q → q.job = .onSlot kind i n → q.phase = .waiting since →
    Completes .readySignal s fun d' =>
      if elapsed s.dev.tick since ≤ replyWindow kind then
        d'.seq = some { q with phase := .receiving since } ∧ { d' with seq := s.dev.seq } = s.dev
      else d' = s.dev) ∧
  (∀ (s : State) (q : Sequence) (kind : WorkKind) (i : SlotNo) (n : BitVec 8) (since : Tick),
    s.dev.seq = some q → q.job = .onSlot kind i n → (q.phase = .waiting since ∨ q.phase = .receiving since) →
    Completes .replyWindowExpiry s fun d' =>
      (elapsed s.dev.tick since < replyWindow kind → d' = s.dev) ∧
      (replyWindow kind ≤ elapsed s.dev.tick since → ExchangeFails s.dev d' q kind i n .requestSent)) ∧
  (∀ (claim : Claim) (s : State) (q : Sequence) (kind : WorkKind) (i : SlotNo) (n : BitVec 8) (since : Tick),
    s.dev.seq = some q → q.job = .onSlot kind i n → q.phase = .idle since →
    Completes (.retrySpacingExpiry claim) s fun d' =>
      let next : Sequence :=
        { q with
          attempts := q.attempts + 1
          marksSent := if kind = .mark then q.wanted.minus (s.dev.slot i).knownMarks else q.marksSent }
      (elapsed s.dev.tick since < 2 → d' = s.dev) ∧
      (2 ≤ elapsed s.dev.tick since → claim = .held → ExchangeFails s.dev d' next kind i n .selected) ∧
      (2 ≤ elapsed s.dev.tick since → claim ≠ .held →
        d'.work = s.dev.work ∧ SameEvents s.dev d' ∧ OtherSlots s.dev d' i ∧
        { d'.slot i with cartridge := (s.dev.slot i).cartridge } = s.dev.slot i ∧
        d'.nonceCount = (if kind = .prove then s.dev.nonceCount + 1 else s.dev.nonceCount) ∧
        ∃ q', d'.seq = some q' ∧ Begins s.dev d' q' claim ∧
          { q' with step := q.step, phase := q.phase, prepared := q.prepared, proveHold := q.proveHold } = next ∧
          (∀ whole, claim = .claimed whole → q'.step = q.step) ∧
          (kind ≠ .prove → q'.proveHold = q.proveHold) ∧
          ∀ km id, kind = .prove → s.dev.keyStore = .provisioned km → (s.dev.slot i).identity = some id →
            ∃ h, q'.proveHold = some h ∧ Challenges s.dev i n km id h)) ∧
  (∀ (claim : Claim) (s : State) (q : Sequence) (since : Tick), s.dev.seq = some q → q.job = .scan →
    q.phase = .idle since →
    Completes (.retrySpacingExpiry claim) s fun d' =>
      (elapsed s.dev.tick since < 2 → d' = s.dev) ∧
      (2 ≤ elapsed s.dev.tick since →
        d'.work = s.dev.work ∧
        (∀ i : SlotNo, { d'.slot i with cartridge := (s.dev.slot i).cartridge } = s.dev.slot i) ∧
        (claim ≠ .held → SameEvents s.dev d' ∧ ∃ q', d'.seq = some q' ∧ Begins s.dev d' q' claim ∧
          { q' with step := q.step, phase := q.phase, prepared := q.prepared } = { q with attempts := q.attempts + 1 }) ∧
        (claim = .held → d'.slots = s.dev.slots ∧
          (q.attempts + 1 < 3 → SameEvents s.dev d' ∧ d'.spurious = s.dev.spurious ∧
            d'.seq = some { q with
              attempts := q.attempts + 1, step := some .selected, phase := .idle s.dev.tick, prepared := none
              proveHold := none }) ∧
          (3 ≤ q.attempts + 1 → d'.seq = none ∧
            (s.dev.spurious + 1 < 3 →
              d'.spurious = s.dev.spurious + 1 ∧ d'.sensing = s.dev.sensing ∧ SameEvents s.dev d') ∧
            (3 ≤ s.dev.spurious + 1 →
              d'.spurious = 0 ∧ d'.sensing = .suspended ∧ RaisesOnly s.dev d' (.device .bus) 1))))) ∧
  ∀ s : State,
    ((∀ q kind i n since, s.dev.seq = some q → q.job = .onSlot kind i n → q.phase ≠ .waiting since) →
      Completes .readySignal s fun d' => d' = s.dev) ∧
    ((∀ q kind i n since, s.dev.seq = some q → q.job = .onSlot kind i n →
        q.phase ≠ .waiting since ∧ q.phase ≠ .receiving since) →
      Completes .replyWindowExpiry s fun d' => d' = s.dev) ∧
    ((∀ q since, s.dev.seq = some q → q.phase ≠ .idle since) →
      ∀ claim, Completes (.retrySpacingExpiry claim) s fun d' => d' = s.dev)

/-- R99 to R102: a DEBIT reply is judged against the expected used E, the amount A and the uncertain record. APPLIED with
E + A posts A; with another used, it posts A with MISMATCH and the larger used. STALE that the record explains posts its
amount, and the rest goes on as a follow-on exchange, which fails as any other where SB_DAT is held low; any other STALE, and
REFUSED, return the in-flight amount to pending with MISMATCH, and with ROLLBACK where the used is below E. In-flight and the
record are gone after each that ends. R106: the class follows; R139: a flag newly set has its effects; R107: a confirmed used
that has reached the capacity asks for EXHAUSTED; R108: one that is 1,000 µL past the refresh base queues the entry; and while
a carry is being made it is queued again. A posted amount beyond 32 bits is a free value (log entry 2), and that a sequence
which has reconciled counts as one that changed the confirmed used is log entry 29. -/
def Obligations.DebitReplyResult : Prop :=
  ∀ (reply : ReplyLine) (claim : Claim) (s : State) (q : Sequence) (i : SlotNo) (status : Byte) (v : Nat),
    Receiving s.dev q .debit i → v ≤ 4294967295 → q.replyBytes reply = some (replyPacket status (beBytes 4 v)) →
    let m := (s.dev.slot i).meter
    let sum := q.expected + q.amount
    let folded : Meter :=
      { m with
        pending := min 4294967295 (m.pending + m.inFlight.getD 0), inFlight := none, uncertain := none
        refreshBase := none
        saturated := m.saturated || decide (4294967295 < m.pending + m.inFlight.getD 0) }
    let explained (a : Nat) : Prop := m.uncertain = some ⟨q.expected, a⟩ ∧ v = q.expected + a
    let settles (d' : Device) : Prop :=
      OtherSlots s.dev d' i ∧ (d'.slot i).admission = (s.dev.slot i).admission ∧
      (d'.slot i).verdict = (s.dev.slot i).verdict ∧
      (d'.slot i).gate.level = levelOf (d'.slot i).meter (d'.slot i).gate ∧
      (Worsens (s.dev.slot i).gate.level (d'.slot i).gate.level → Debitable (d'.slot i) →
        (s.dev.slot i).admission ≠ .vacant → (d'.findEntry .debit i).isSome = true) ∧
      ((d'.slot i).flags ≠ (s.dev.slot i).flags → Suspected s.dev d' i true) ∧
      (s.dev.supply = .low ∨ s.dev.resetCarry = true → (s.dev.slot i).merged = true → Queues s.dev d' d' i true none) ∧
      (q.origins.system = true → holds d'.system (.slot .done i) = true)
    let posts (d' : Device) : Prop :=
      q.reconciled = true ∨ (d'.slot i).meter.confirmed ≠ m.confirmed →
        (∀ c, m.capacity = some c → c ≤ (d'.slot i).meter.confirmed → (s.dev.slot i).knownMarks.exhausted = false →
          (s.dev.slot i).admission ≠ .vacant → ∃ e, d'.findEntry .mark i = some e ∧ e.wanted.exhausted = true) ∧
        ∀ b, m.refreshBase = some b → (s.dev.slot i).merged = true → b + 1000 ≤ (d'.slot i).meter.confirmed →
          Queues s.dev d' d' i false none
    Completes (.replyReceived reply claim) s fun d' =>
      (status = 0xA1 → v = sum → m.posted + q.amount ≤ 4294967295 →
        Ended d' q .debit i (if q.reconciled then .reconciled else .applied) ∧
        (d'.slot i).flags = (s.dev.slot i).flags ∧ settles d' ∧ posts d' ∧
        account (d'.slot i) = { m with
          confirmed := v, posted := m.posted + q.amount, inFlight := none, uncertain := none, refreshBase := none }) ∧
      (status = 0xA1 → v ≠ sum → m.posted + q.amount ≤ 4294967295 →
        Ended d' q .debit i .mismatch ∧
        (d'.slot i).flags = { (s.dev.slot i).flags with mismatch := true } ∧ settles d' ∧ posts d' ∧
        account (d'.slot i) = { m with
          confirmed := min 4294967295 (max sum v), posted := m.posted + q.amount, inFlight := none
          uncertain := none, refreshBase := none, saturated := m.saturated || decide (4294967295 < sum) }) ∧
      (∀ a, status = 0xA2 → explained a → m.posted + a ≤ 4294967295 → q.amount ≤ a →
        Ended d' q .debit i .reconciled ∧ (d'.slot i).flags = (s.dev.slot i).flags ∧ settles d' ∧ posts d' ∧
        account (d'.slot i) = { m with
          confirmed := v, posted := m.posted + a, inFlight := none, uncertain := none, refreshBase := none }) ∧
      (∀ a, status = 0xA2 → explained a → m.posted + a ≤ 4294967295 → a < q.amount → claim ≠ .held →
        (d'.slot i).flags = (s.dev.slot i).flags ∧
        account (d'.slot i) = { m with
          confirmed := v, posted := m.posted + a, inFlight := some (q.amount - a), uncertain := none
          refreshBase := none } ∧
        (d'.slot i).gate.level = levelOf (d'.slot i).meter (d'.slot i).gate ∧
        ∃ q', d'.seq = some q' ∧ Begins s.dev d' q' claim ∧
          { q' with step := q.step, phase := q.phase, prepared := q.prepared } =
            { q with expected := v, amount := q.amount - a, reconciled := true }) ∧
      (∀ a, status = 0xA2 → explained a → m.posted + a ≤ 4294967295 → a < q.amount → claim = .held →
        (d'.slot i).flags = (s.dev.slot i).flags ∧
        (d'.slot i).busErrors = min 255 ((s.dev.slot i).busErrors + 1) ∧
        (q.attempts < 3 →
          account (d'.slot i) = { m with
            confirmed := v, posted := m.posted + a, inFlight := some (q.amount - a)
            uncertain := some ⟨v, q.amount - a⟩, refreshBase := none } ∧
          d'.seq = some { q with
            expected := v, amount := q.amount - a, reconciled := true, step := some .selected
            phase := .idle s.dev.tick, prepared := none, proveHold := none }) ∧
        (3 ≤ q.attempts →
          account (d'.slot i) = { m with
            confirmed := v, posted := m.posted + a, inFlight := none
            pending := min 4294967295 (m.pending + (q.amount - a)), uncertain := some ⟨v, q.amount - a⟩
            refreshBase := none
            saturated := m.saturated || decide (4294967295 < m.pending + (q.amount - a)) } ∧
          d'.seq = none ∧ (d'.slot i).lastSequence = some ⟨.debit, .failed, some .selected, q.attempts⟩ ∧
          ((s.dev.slot i).admission.seated = true →
            (d'.slot i).admission = .mute ∧ holds d'.system (.slot .mute i) = true))) ∧
      (status = 0xA2 → (∀ a, ¬explained a) →
        Ended d' q .debit i .mismatch ∧
        (d'.slot i).flags = { (s.dev.slot i).flags with
          mismatch := true, rollback := (s.dev.slot i).flags.rollback || decide (v < q.expected) } ∧
        settles d' ∧ posts d' ∧
        account (d'.slot i) = { folded with confirmed := max q.expected v }) ∧
      (status = 0xA3 →
        Ended d' q .debit i .refused ∧
        (d'.slot i).flags = { (s.dev.slot i).flags with mismatch := true } ∧ settles d' ∧ account (d'.slot i) = folded)

/-- R10, R89, R14, R17: an IDENTIFY reply on an IDENTIFYING slot stores the identity, opens the account where none is open,
sets the flags that the marks and a serial seen twice call for, DUPLICATE on every other slot with the serial as well, and
leads to PROVING with a PROVE listed; a capacity or a generation that no genuine cartridge has leads to REJECTED. R139: a flag
newly set raises SUSPECT, and on a PROVEN slot writes its entry and asks for its MARK. R61: PROVING with a BLANK key store
raises HISTORY KEYS ABSENT, once. A held identity of another serial is closed out: REMOVED and SEATED, a new insertion
number, and a new IDENTIFY. It is stated where the identities stand as R3, R10 and R14 have them (Safety.IdentitiesOk),
which EveryStepKeepsTheGates states of every step. That every other slot with the serial takes DUPLICATE, and that the slot's
own flags are set together, is log entry 22; which entry is the serial's, if two places hold it, is log entry 38. -/
def Obligations.IdentifyReplyResult : Prop :=
  ∀ (reply : ReplyLine) (claim : Claim) (s : State) (q : Sequence) (i : SlotNo) (id : Identity),
    Receiving s.dev q .identify i → (s.dev.slot i).admission = .identifying → IdentitiesOk s.dev →
    id.capacity ≤ 4294967295 → id.used ≤ 4294967295 →
    q.replyBytes reply = some (replyPacket 0xA0 (beBytes 8 id.serial.toNat ++ beBytes 2 id.inkCode.toNat ++
      beBytes 1 id.generation.toNat ++ beBytes 4 id.capacity ++ beBytes 4 id.used ++ [id.marks.toByte])) →
    let before := s.dev.slot i
    let shows (j : SlotNo) : Prop := j ≠ i ∧ (s.dev.slot j).identity.map Identity.serial = some id.serial
    Completes (.replyReceived reply claim) s fun d' =>
      Ended d' q .identify i .done ∧
      ((∀ h, before.held = some h → h.serial = id.serial) →
        (d'.slot i).identity = some id ∧ (d'.slot i).held = none ∧ (d'.slot i).insertion = before.insertion ∧
        (d'.slot i).meter.pending = before.meter.pending ∧
        (before.meter.capacity = none → 1 ≤ id.capacity → id.capacity ≤ 4000000 →
          (d'.slot i).meter.capacity = some id.capacity ∧ (d'.slot i).meter.confirmed = id.used) ∧
        (before.meter.capacity ≠ none → (d'.slot i).meter.capacity = before.meter.capacity ∧
          (d'.slot i).meter.confirmed = before.meter.confirmed) ∧
        (d'.slot i).gate.level = levelOf (d'.slot i).meter (d'.slot i).gate ∧
        ((d'.slot i).flags.duplicate = true ↔ before.flags.duplicate = true ∨ ∃ j, shows j) ∧
        (d'.slot i).flags.reuse =
          (before.flags.reuse || (id.marks.exhausted && decide (id.used < id.capacity))) ∧
        (d'.slot i).flags.sealFlag = (before.flags.sealFlag || id.marks.sealMark) ∧
        (d'.slot i).flags.marked = (before.flags.marked || id.marks.suspect) ∧
        ((d'.slot i).flags ≠ before.flags → holds d'.system (.slot .suspect i) = true) ∧
        (∀ j, shows j →
          (d'.slot j).flags = { (s.dev.slot j).flags with duplicate := true } ∧
          ((s.dev.slot j).flags.duplicate = false →
            holds d'.system (.slot .suspect j) = true ∧
            (before.verdict = .none → (∀ k, shows k → k = j) → Suspected s.dev d' j true))) ∧
        (∀ j, j ≠ i → ¬shows j → d'.slot j = s.dev.slot j) ∧
        (1 ≤ id.capacity → id.capacity ≤ 4000000 → id.generation ≠ 0 →
          (d'.slot i).admission = .proving ∧ (d'.slot i).verdict = before.verdict ∧
          (s.dev.keyStore = .blank → d'.keysAbsent = true ∧ (s.dev.keysAbsent = false → HistoryReason d' 0)) ∧
          ∃ e, d'.findEntry .prove i = some e ∧ e.origins.internal = true ∧
            (q.origins.system = true → e.origins.system = true)) ∧
        (id.capacity = 0 ∨ 4000000 < id.capacity ∨ id.generation = 0 →
          (d'.slot i).admission = .rejected ∧ (d'.slot i).verdict = .failed .badIdentity ∧
          holds d'.system (.slot .rejected i) = true)) ∧
      ((∃ h, before.held = some h ∧ h.serial ≠ id.serial) →
        (d'.slot i).admission = .identifying ∧ (d'.slot i).insertion = before.insertion + 1 ∧
        (d'.slot i).identity = none ∧ (d'.slot i).held = none ∧ (d'.slot i).meter = Meter.vacant ∧
        (d'.slot i).flags = Flags.empty ∧ (d'.slot i).merged = false ∧ (d'.slot i).seatedAt = s.dev.tick ∧
        (d'.slot i).removedAt = some s.dev.tick ∧ OtherSlots s.dev d' i ∧
        holds d'.system (.slot .removed i) = true ∧ holds d'.system (.slot .seated i) = true ∧
        (before.merged = true → Queues s.dev s.dev d' i (decide (s.dev.supply = .low) || s.dev.resetCarry) none) ∧
        d'.work.filter (fun e => e.isOn i) =
          [⟨.onSlot .identify i (before.insertion + 1), Origins.ofInternal, false, Wanted.empty⟩])

/-- R11, R66, R67, R68, R137, R138: a PROVE reply that equals the expected response admits a slot in PROVING, with verdict
PROVEN, ADMITTED raised, the proof counted and the history merged. The first merge carries the unposted ink of the serial's
entry into pending, less what its uncertain record shows applied, and none where another merged slot holds the serial; a
re-check merge keeps the account. Each sets ROLLBACK, MISMATCH and RECORDED as the used and the entry call for, queues the
header with the seen number and the entry, and asks for the DEBIT and the MARK that follow. A different reply makes the
verdict FAILED: in PROVING the slot is REJECTED; an ADMITTED slot stays so with SWAP and its effects (R139). That the
confirmed used after a first merge is no lower than before it is log entry 12; which entry is the serial's, if two places hold
it, is log entry 38. -/
def Obligations.ProveReplyResult : Prop :=
  ∀ (reply : ReplyLine) (claim : Claim) (s : State) (q : Sequence) (i : SlotNo) (id : Identity) (h : ProveHold)
    (x y : Word),
    Receiving s.dev q .prove i → (s.dev.slot i).identity = some id → q.proveHold = some h →
    q.replyBytes reply = some (replyPacket 0xA0 (beBytes 4 x.toNat ++ beBytes 4 y.toNat)) →
    let before := s.dev.slot i
    let equal : Prop :=
      proofResponse h.cartridgeKey h.nonceHigh h.nonceLow h.used h.capacity h.printerMarks id.inkCode = ⟨x, y⟩
    Completes (.replyReceived reply claim) s fun d' =>
      (d'.slot i).insertion = before.insertion ∧ (d'.slot i).identity = before.identity ∧ OtherSlots s.dev d' i ∧
      (equal → Ended d' q .prove i .done) ∧ (¬equal → Ended d' q .prove i .mismatch) ∧
      (before.admission = .proving → equal →
        (d'.slot i).admission = .admitted ∧ (d'.slot i).verdict = .proven ∧ (d'.slot i).merged = true ∧
        (d'.slot i).proofCount = min 65535 (before.proofCount + 1) ∧ (d'.slot i).lastProof = some s.dev.tick ∧
        holds d'.system (.slot .admitted i) = true ∧ (d'.slot i).gate.causes = causesOf (d'.slot i) ∧
        Merges s.dev d' i ((d'.slot i).flags ≠ before.flags)) ∧
      (before.admission = .proving → equal → before.merged = false → ∀ entry, s.dev.entryOf id.serial = entry →
        let other : Prop := ∃ j, j ≠ i ∧ (s.dev.slot j).merged = true ∧ (s.dev.slot j).holdsSerial id.serial = true
        let carried : Nat :=
          match entry with
          | none => 0
          | some e =>
            match e.uncertain with
            | none => e.unposted
            | some u => if id.used = u.expected + u.amount then e.unposted - u.amount else e.unposted
        let takes (amount : Nat) : Prop :=
          account (d'.slot i) = { account before with
            confirmed := max before.meter.confirmed
              (max id.used (match entry with | none => 0 | some e => e.recordedUsed))
            carriedIn := amount
            pending := min 4294967295 (before.meter.pending + amount)
            saturated := before.meter.saturated || decide (4294967295 < before.meter.pending + amount) } ∧
          (0 < amount → Debitable (d'.slot i) → ∃ e, d'.findEntry .debit i = some e ∧ e.origins.internal = true)
        (other → takes 0) ∧ (¬other → takes carried) ∧
        (d'.slot i).flags =
          match entry with
          | none => before.flags
          | some e => { before.flags with
              rollback := before.flags.rollback || decide (id.used < e.recordedUsed)
              recorded := before.flags.recorded || e.flags.any
              mismatch := before.flags.mismatch || decide (e.inkCode ≠ id.inkCode ∨ e.capacity ≠ id.capacity) }) ∧
      (before.admission = .proving → equal → before.merged = true →
        account (d'.slot i) = { account before with confirmed := max before.meter.confirmed id.used } ∧
        (d'.slot i).flags = { before.flags with
          rollback := before.flags.rollback || decide (id.used < before.meter.confirmed)
          mismatch := before.flags.mismatch || decide (before.meter.confirmed < id.used) }) ∧
      (before.admission = .proving → ¬equal →
        (d'.slot i).admission = .rejected ∧ (d'.slot i).verdict = .failed .proofMismatch ∧
        (d'.slot i).meter = before.meter ∧ (d'.slot i).flags = before.flags ∧ d'.store = s.dev.store ∧
        holds d'.system (.slot .rejected i) = true) ∧
      (before.admission = .admitted → before.verdict = .proven → equal →
        d'.slot i = { before with
          proofCount := min 65535 (before.proofCount + 1), lastProof := some s.dev.tick
          lastSequence := (d'.slot i).lastSequence }) ∧
      (before.admission = .admitted → before.verdict = .proven → ¬equal →
        (d'.slot i).admission = .admitted ∧ (d'.slot i).verdict = .failed .proofMismatch ∧
        (d'.slot i).flags = { before.flags with swap := true } ∧ account (d'.slot i) = account before ∧
        (before.flags.swap = false → Suspected s.dev d' i true) ∧
        holds d'.system (.slot .rejected i) = true)

/-- R22: a reply read whole fails the attempt CRC_BAD, with step REPLY RECEIVED, charged to the slot, when its CRC-8 is wrong,
when its status is not one of its op, or when its marks lack a known mark, a mark that the MARK named, or SEAL beside the
attention cause SEAL; R45, R104, R12: at the third attempt it ends the sequence. R23, R140, R174: a MARK or POLL reply whose
marks hold all of them adds its marks to the known marks, and SEAL among them sets the SEAL flag with its effects (R139). R31:
a cartridge that has sent its POLL reply has no attention pending. A reply the line leaves alone reads as the one the
cartridge prepared. That a reply outside an exchange that receives changes nothing is the model's choice (log entry 3). -/
def Obligations.MarksAndBadReplies : Prop :=
  (∀ (reply : ReplyLine) (claim : Claim) (s : State) (q : Sequence) (kind : WorkKind) (i : SlotNo) (n : BitVec 8)
    (since : Tick) (bytes : List Byte),
    s.dev.seq = some q → q.job = .onSlot kind i n → q.phase = .receiving since →
    elapsed s.dev.tick since ≤ replyWindow kind → q.replyBytes reply = some bytes → bytes.length = replyLength kind →
    let status := bytes.headD 0
    let marks := Marks.ofByte (bytes.getD 1 0)
    (crc8 bytes ≠ 0 ∨ (kind ≠ .debit ∧ status ≠ 0xA0) ∨
      (kind = .debit ∧ status ≠ 0xA1 ∧ status ≠ 0xA2 ∧ status ≠ 0xA3) ∨
      ((kind = .mark ∨ kind = .poll) ∧ marks.holds (s.dev.slot i).knownMarks = false) ∨
      (kind = .mark ∧ marks.holds q.marksSent.toMarks = false) ∨
      (kind = .poll ∧ bytes.getD 2 0 = 0x01 ∧ marks.sealMark = false)) →
    Completes (.replyReceived reply claim) s fun d' => ExchangeFails s.dev d' q kind i n .replyReceived) ∧
  (∀ (reply : ReplyLine) (claim : Claim) (s : State) (q : Sequence) (kind : WorkKind) (i : SlotNo) (marks : Marks)
    (cause : Byte),
    Receiving s.dev q kind i → (kind = .mark ∨ kind = .poll) →
    q.replyBytes reply = some (replyPacket 0xA0 (if kind = .mark then [marks.toByte] else [marks.toByte, cause])) →
    marks.holds (s.dev.slot i).knownMarks = true → (kind = .mark → marks.holds q.marksSent.toMarks = true) →
    (kind = .poll → cause = 1 → marks.sealMark = true) →
    Completes (.replyReceived reply claim) s fun d' =>
      Ended d' q kind i .done ∧ (d'.slot i).admission = (s.dev.slot i).admission ∧
      (d'.slot i).identity = (s.dev.slot i).identity.map (fun id => { id with marks := marks }) ∧
      (d'.slot i).flags =
        { (s.dev.slot i).flags with sealFlag := (s.dev.slot i).flags.sealFlag || marks.sealMark } ∧
      (marks.sealMark = true → (s.dev.slot i).flags.sealFlag = false → Suspected s.dev d' i true) ∧
      (∀ c, (s.dev.slot i).cartridge = some c → (d'.slot i).cartridge =
        if kind = .poll ∧ q.prepared.isSome = true then
          some { c with attentionPending := false, attentionCause := .none } else some c) ∧
      account (d'.slot i) = account (s.dev.slot i) ∧ OtherSlots s.dev d' i) ∧
  (∀ (claim : Claim) (s : State) (q : Sequence), s.dev.seq = some q →
    (q.prepared = none → Completes (.replyReceived .asSent claim) s fun d' => d' = s.dev) ∧
    ∀ bytes, q.prepared = some bytes → exec (.replyReceived .asSent claim) s = exec (.replyReceived (.read bytes) claim) s) ∧
  ∀ (reply : ReplyLine) (claim : Claim) (s : State),
    (∀ q since, s.dev.seq = some q → q.phase ≠ .receiving since) →
    Completes (.replyReceived reply claim) s fun d' => d' = s.dev

/-- R33, R35: the end of a scan ends its sequence on the idle bus. A map with a set bit makes the spurious count 0 and
lists a POLL with origin ATTENTION for every set slot with an identity. An empty map is spurious: the third in a row
suspends attention sensing with BUS. A slot that was not scanned shows a clear bit. The levels of the answer periods are an
operand (log entry 13), and that SCAN_ENDS changes nothing where no scan runs is the model's choice (log entry 3). -/
def Obligations.ScanEndsResult : Prop :=
  (∀ (answers : AnswerLine) (s : State) (q : Sequence) (scanned map : BitVec 8),
    s.dev.seq = some q → q.phase = .scanning scanned →
    (∀ i : SlotNo, map.getLsbD i.val = (scanned.getLsbD i.val &&
      match answers with
      | .read lows => lows.getLsbD i.val
      | .asDriven => match (s.dev.slot i).cartridge with | none => false | some x => x.attentionPending)) →
    Completes (.scanEnds answers) s fun d' =>
      d'.seq = none ∧ d'.clockRested = false ∧ d'.slots = s.dev.slots ∧
      (map ≠ 0 → d'.spurious = 0 ∧ d'.sensing = s.dev.sensing ∧ SameEvents s.dev d' ∧
        (∀ i : SlotNo, map.getLsbD i.val = true → (s.dev.slot i).identity.isSome = true →
          (s.dev.slot i).admission ≠ .vacant →
            ∃ e, d'.findEntry .poll i = some e ∧ e.origins.attention = true) ∧
        ∀ i : SlotNo, map.getLsbD i.val = false ∨ (s.dev.slot i).identity = none →
          d'.findEntry .poll i = s.dev.findEntry .poll i) ∧
      (map = 0 → d'.work = s.dev.work ∧
        (s.dev.spurious + 1 < 3 → d'.spurious = s.dev.spurious + 1 ∧ d'.sensing = s.dev.sensing ∧
          SameEvents s.dev d') ∧
        (3 ≤ s.dev.spurious + 1 → d'.spurious = 0 ∧ d'.sensing = .suspended ∧ d'.measure = .stopped ∧
          RaisesOnly s.dev d' (.device .bus) 1))) ∧
  ∀ (answers : AnswerLine) (s : State), (∀ q scanned, s.dev.seq = some q → q.phase ≠ .scanning scanned) →
    Completes (.scanEnds answers) s fun d' => d' = s.dev
end

