-- ==== Sys2Proof/Laws/State.lean ====
section
/-! SUPPORT. The fields of the state under its updates, each true by rfl, and the reading of a record after its update, so
that no proof unfolds a record update. -/

namespace Sys2Proof.Laws

open Sys2Proof Sys2Proof.Machine

/-! ## One slot's record -/

@[simp] theorem updSlot_tick (d : Device) (i : SlotNo) (f : Slot → Slot) : (d.updSlot i f).tick = d.tick := rfl
@[simp] theorem updSlot_framePhase (d : Device) (i : SlotNo) (f : Slot → Slot) : (d.updSlot i f).framePhase = d.framePhase := rfl
@[simp] theorem updSlot_boundaryDue (d : Device) (i : SlotNo) (f : Slot → Slot) : (d.updSlot i f).boundaryDue = d.boundaryDue := rfl
@[simp] theorem updSlot_auditPeriod (d : Device) (i : SlotNo) (f : Slot → Slot) : (d.updSlot i f).auditPeriod = d.auditPeriod := rfl
@[simp] theorem updSlot_auditElapsed (d : Device) (i : SlotNo) (f : Slot → Slot) : (d.updSlot i f).auditElapsed = d.auditElapsed := rfl
@[simp] theorem updSlot_wakeMask (d : Device) (i : SlotNo) (f : Slot → Slot) : (d.updSlot i f).wakeMask = d.wakeMask := rfl
@[simp] theorem updSlot_work (d : Device) (i : SlotNo) (f : Slot → Slot) : (d.updSlot i f).work = d.work := rfl
@[simp] theorem updSlot_seq (d : Device) (i : SlotNo) (f : Slot → Slot) : (d.updSlot i f).seq = d.seq := rfl
@[simp] theorem updSlot_clockRested (d : Device) (i : SlotNo) (f : Slot → Slot) : (d.updSlot i f).clockRested = d.clockRested := rfl
@[simp] theorem updSlot_sensing (d : Device) (i : SlotNo) (f : Slot → Slot) : (d.updSlot i f).sensing = d.sensing := rfl
@[simp] theorem updSlot_spurious (d : Device) (i : SlotNo) (f : Slot → Slot) : (d.updSlot i f).spurious = d.spurious := rfl
@[simp] theorem updSlot_datLow (d : Device) (i : SlotNo) (f : Slot → Slot) : (d.updSlot i f).datLow = d.datLow := rfl
@[simp] theorem updSlot_measure (d : Device) (i : SlotNo) (f : Slot → Slot) : (d.updSlot i f).measure = d.measure := rfl
@[simp] theorem updSlot_keyStore (d : Device) (i : SlotNo) (f : Slot → Slot) : (d.updSlot i f).keyStore = d.keyStore := rfl
@[simp] theorem updSlot_nonceCount (d : Device) (i : SlotNo) (f : Slot → Slot) : (d.updSlot i f).nonceCount = d.nonceCount := rfl
@[simp] theorem updSlot_bootNumber (d : Device) (i : SlotNo) (f : Slot → Slot) : (d.updSlot i f).bootNumber = d.bootNumber := rfl
@[simp] theorem updSlot_keysAbsent (d : Device) (i : SlotNo) (f : Slot → Slot) : (d.updSlot i f).keysAbsent = d.keysAbsent := rfl
@[simp] theorem updSlot_store (d : Device) (i : SlotNo) (f : Slot → Slot) : (d.updSlot i f).store = d.store := rfl
@[simp] theorem updSlot_engine (d : Device) (i : SlotNo) (f : Slot → Slot) : (d.updSlot i f).engine = d.engine := rfl
@[simp] theorem updSlot_system (d : Device) (i : SlotNo) (f : Slot → Slot) : (d.updSlot i f).system = d.system := rfl
@[simp] theorem updSlot_power (d : Device) (i : SlotNo) (f : Slot → Slot) : (d.updSlot i f).power = d.power := rfl
@[simp] theorem updSlot_supply (d : Device) (i : SlotNo) (f : Slot → Slot) : (d.updSlot i f).supply = d.supply := rfl
@[simp] theorem updSlot_resetCarry (d : Device) (i : SlotNo) (f : Slot → Slot) : (d.updSlot i f).resetCarry = d.resetCarry := rfl
@[simp] theorem updSlot_debitsSettled (d : Device) (i : SlotNo) (f : Slot → Slot) : (d.updSlot i f).debitsSettled = d.debitsSettled := rfl

/-- The record that an update has changed reads as changed. -/
@[simp] theorem slot_updSlot_self (d : Device) (i : SlotNo) (f : Slot → Slot) :
    (d.updSlot i f).slot i = f (d.slot i) := by
  simp [Device.slot, Device.updSlot, Vector.get_eq_getElem]

/-- Every other record reads as it did. -/
@[simp] theorem slot_updSlot_ne (d : Device) (i j : SlotNo) (f : Slot → Slot) (h : j ≠ i) :
    (d.updSlot i f).slot j = d.slot j := by
  have : i.val ≠ j.val := fun e => h (Fin.ext e.symm)
  simp [Device.slot, Device.updSlot, Vector.get_eq_getElem, Vector.getElem_set_ne, this]

/-- A record after the update of a slot, whichever it is. -/
theorem slot_updSlot (d : Device) (i j : SlotNo) (f : Slot → Slot) :
    (d.updSlot i f).slot j = if j = i then f (d.slot i) else d.slot j := by
  by_cases h : j = i
  · subst h; simp
  · simp [h]

/-- Two devices that agree outside the slots and in every slot are one. -/
theorem device_ext_slots (d e : Device) (h : { d with slots := e.slots } = e) (hs : ∀ i, d.slot i = e.slot i) : d = e := by
  have : d.slots = e.slots := by
    apply Vector.ext
    intro k hk
    simpa [Device.slot, Vector.get_eq_getElem] using hs ⟨k, hk⟩
  rw [← h, ← this]

/-- An update that leaves the record as it was is none. -/
theorem updSlot_same (d : Device) (i : SlotNo) (f : Slot → Slot) (h : f (d.slot i) = d.slot i) : d.updSlot i f = d := by
  apply device_ext_slots
  · rfl
  · intro j
    rw [slot_updSlot]
    split
    · subst_vars; exact h
    · rfl

/-- Two updates of one slot are one. -/
@[simp] theorem updSlot_updSlot (d : Device) (i : SlotNo) (f g : Slot → Slot) :
    (d.updSlot i f).updSlot i g = d.updSlot i fun s => g (f s) := by
  apply device_ext_slots
  · rfl
  · intro j
    simp only [slot_updSlot]
    by_cases h : j = i <;> simp [h]

/-- Outside the record of the slot, an update of one slot leaves the device as it was. -/
theorem updSlot_onlySlot (d : Device) (i : SlotNo) (f : Slot → Slot) : Safety.OnlySlot d (d.updSlot i f) i :=
  ⟨rfl, fun j h => slot_updSlot_ne d i j f h⟩

@[simp] theorem updMeter_eq (d : Device) (i : SlotNo) (f : Meter → Meter) :
    d.updMeter i f = d.updSlot i fun s => { s with meter := f s.meter } := rfl
@[simp] theorem updGate_eq (d : Device) (i : SlotNo) (f : GateRecord → GateRecord) :
    d.updGate i f = d.updSlot i fun s => { s with gate := f s.gate } := rfl
@[simp] theorem updLamp_eq (d : Device) (i : SlotNo) (f : LampRecord → LampRecord) :
    d.updLamp i f = d.updSlot i fun s => { s with lamp := f s.lamp } := rfl

/-! ## Every slot's record -/

/-- Outside the records, an update of every record leaves the device as it was. -/
theorem updAll_frame (d : Device) (f : SlotNo → Slot → Slot) : ∃ slots, d.updAll f = { d with slots := slots } := by
  have key : ∀ (l : List SlotNo) (e : Device), (∃ slots, e = { d with slots := slots }) →
      ∃ slots, l.foldl (fun d i => d.updSlot i (f i)) e = { d with slots := slots } := by
    intro l
    induction l with
    | nil => intro e h; exact h
    | cons j js ih => rintro e ⟨slots, rfl⟩; exact ih _ ⟨_, rfl⟩
  exact key allSlots d ⟨d.slots, rfl⟩

@[simp] theorem updAll_tick (d : Device) (f : SlotNo → Slot → Slot) : (d.updAll f).tick = d.tick := by obtain ⟨_, h⟩ := updAll_frame d f; rw [h]
@[simp] theorem updAll_framePhase (d : Device) (f : SlotNo → Slot → Slot) : (d.updAll f).framePhase = d.framePhase := by obtain ⟨_, h⟩ := updAll_frame d f; rw [h]
@[simp] theorem updAll_boundaryDue (d : Device) (f : SlotNo → Slot → Slot) : (d.updAll f).boundaryDue = d.boundaryDue := by obtain ⟨_, h⟩ := updAll_frame d f; rw [h]
@[simp] theorem updAll_auditPeriod (d : Device) (f : SlotNo → Slot → Slot) : (d.updAll f).auditPeriod = d.auditPeriod := by obtain ⟨_, h⟩ := updAll_frame d f; rw [h]
@[simp] theorem updAll_auditElapsed (d : Device) (f : SlotNo → Slot → Slot) : (d.updAll f).auditElapsed = d.auditElapsed := by obtain ⟨_, h⟩ := updAll_frame d f; rw [h]
@[simp] theorem updAll_wakeMask (d : Device) (f : SlotNo → Slot → Slot) : (d.updAll f).wakeMask = d.wakeMask := by obtain ⟨_, h⟩ := updAll_frame d f; rw [h]
@[simp] theorem updAll_work (d : Device) (f : SlotNo → Slot → Slot) : (d.updAll f).work = d.work := by obtain ⟨_, h⟩ := updAll_frame d f; rw [h]
@[simp] theorem updAll_seq (d : Device) (f : SlotNo → Slot → Slot) : (d.updAll f).seq = d.seq := by obtain ⟨_, h⟩ := updAll_frame d f; rw [h]
@[simp] theorem updAll_clockRested (d : Device) (f : SlotNo → Slot → Slot) : (d.updAll f).clockRested = d.clockRested := by obtain ⟨_, h⟩ := updAll_frame d f; rw [h]
@[simp] theorem updAll_sensing (d : Device) (f : SlotNo → Slot → Slot) : (d.updAll f).sensing = d.sensing := by obtain ⟨_, h⟩ := updAll_frame d f; rw [h]
@[simp] theorem updAll_spurious (d : Device) (f : SlotNo → Slot → Slot) : (d.updAll f).spurious = d.spurious := by obtain ⟨_, h⟩ := updAll_frame d f; rw [h]
@[simp] theorem updAll_datLow (d : Device) (f : SlotNo → Slot → Slot) : (d.updAll f).datLow = d.datLow := by obtain ⟨_, h⟩ := updAll_frame d f; rw [h]
@[simp] theorem updAll_measure (d : Device) (f : SlotNo → Slot → Slot) : (d.updAll f).measure = d.measure := by obtain ⟨_, h⟩ := updAll_frame d f; rw [h]
@[simp] theorem updAll_keyStore (d : Device) (f : SlotNo → Slot → Slot) : (d.updAll f).keyStore = d.keyStore := by obtain ⟨_, h⟩ := updAll_frame d f; rw [h]
@[simp] theorem updAll_nonceCount (d : Device) (f : SlotNo → Slot → Slot) : (d.updAll f).nonceCount = d.nonceCount := by obtain ⟨_, h⟩ := updAll_frame d f; rw [h]
@[simp] theorem updAll_bootNumber (d : Device) (f : SlotNo → Slot → Slot) : (d.updAll f).bootNumber = d.bootNumber := by obtain ⟨_, h⟩ := updAll_frame d f; rw [h]
@[simp] theorem updAll_keysAbsent (d : Device) (f : SlotNo → Slot → Slot) : (d.updAll f).keysAbsent = d.keysAbsent := by obtain ⟨_, h⟩ := updAll_frame d f; rw [h]
@[simp] theorem updAll_store (d : Device) (f : SlotNo → Slot → Slot) : (d.updAll f).store = d.store := by obtain ⟨_, h⟩ := updAll_frame d f; rw [h]
@[simp] theorem updAll_engine (d : Device) (f : SlotNo → Slot → Slot) : (d.updAll f).engine = d.engine := by obtain ⟨_, h⟩ := updAll_frame d f; rw [h]
@[simp] theorem updAll_system (d : Device) (f : SlotNo → Slot → Slot) : (d.updAll f).system = d.system := by obtain ⟨_, h⟩ := updAll_frame d f; rw [h]
@[simp] theorem updAll_power (d : Device) (f : SlotNo → Slot → Slot) : (d.updAll f).power = d.power := by obtain ⟨_, h⟩ := updAll_frame d f; rw [h]
@[simp] theorem updAll_supply (d : Device) (f : SlotNo → Slot → Slot) : (d.updAll f).supply = d.supply := by obtain ⟨_, h⟩ := updAll_frame d f; rw [h]
@[simp] theorem updAll_resetCarry (d : Device) (f : SlotNo → Slot → Slot) : (d.updAll f).resetCarry = d.resetCarry := by obtain ⟨_, h⟩ := updAll_frame d f; rw [h]
@[simp] theorem updAll_debitsSettled (d : Device) (f : SlotNo → Slot → Slot) : (d.updAll f).debitsSettled = d.debitsSettled := by obtain ⟨_, h⟩ := updAll_frame d f; rw [h]

/-- Each record reads as changed. -/
@[simp] theorem slot_updAll (d : Device) (f : SlotNo → Slot → Slot) (i : SlotNo) :
    (d.updAll f).slot i = f i (d.slot i) := by
  have key : ∀ (l : List SlotNo) (d : Device), l.Nodup →
      (l.foldl (fun d i => d.updSlot i (f i)) d).slot i = if i ∈ l then f i (d.slot i) else d.slot i := by
    intro l
    induction l with
    | nil => intro d _; rfl
    | cons j js ih =>
      intro d h
      rw [List.foldl_cons, ih _ (List.nodup_cons.mp h).2]
      by_cases e : i = j
      · subst e; simp [(List.nodup_cons.mp h).1]
      · simp [e]
  have := key allSlots d (by decide)
  rw [if_pos (by fin_cases i <;> decide)] at this
  exact this

/-! ## Events -/

@[simp] theorem raise_tick (d : Device) (id : EventId) (r : BitVec 4) : (d.raise id r).tick = d.tick := rfl
@[simp] theorem raise_framePhase (d : Device) (id : EventId) (r : BitVec 4) : (d.raise id r).framePhase = d.framePhase := rfl
@[simp] theorem raise_boundaryDue (d : Device) (id : EventId) (r : BitVec 4) : (d.raise id r).boundaryDue = d.boundaryDue := rfl
@[simp] theorem raise_auditPeriod (d : Device) (id : EventId) (r : BitVec 4) : (d.raise id r).auditPeriod = d.auditPeriod := rfl
@[simp] theorem raise_auditElapsed (d : Device) (id : EventId) (r : BitVec 4) : (d.raise id r).auditElapsed = d.auditElapsed := rfl
@[simp] theorem raise_wakeMask (d : Device) (id : EventId) (r : BitVec 4) : (d.raise id r).wakeMask = d.wakeMask := rfl
@[simp] theorem raise_work (d : Device) (id : EventId) (r : BitVec 4) : (d.raise id r).work = d.work := rfl
@[simp] theorem raise_seq (d : Device) (id : EventId) (r : BitVec 4) : (d.raise id r).seq = d.seq := rfl
@[simp] theorem raise_clockRested (d : Device) (id : EventId) (r : BitVec 4) : (d.raise id r).clockRested = d.clockRested := rfl
@[simp] theorem raise_sensing (d : Device) (id : EventId) (r : BitVec 4) : (d.raise id r).sensing = d.sensing := rfl
@[simp] theorem raise_spurious (d : Device) (id : EventId) (r : BitVec 4) : (d.raise id r).spurious = d.spurious := rfl
@[simp] theorem raise_datLow (d : Device) (id : EventId) (r : BitVec 4) : (d.raise id r).datLow = d.datLow := rfl
@[simp] theorem raise_measure (d : Device) (id : EventId) (r : BitVec 4) : (d.raise id r).measure = d.measure := rfl
@[simp] theorem raise_keyStore (d : Device) (id : EventId) (r : BitVec 4) : (d.raise id r).keyStore = d.keyStore := rfl
@[simp] theorem raise_nonceCount (d : Device) (id : EventId) (r : BitVec 4) : (d.raise id r).nonceCount = d.nonceCount := rfl
@[simp] theorem raise_bootNumber (d : Device) (id : EventId) (r : BitVec 4) : (d.raise id r).bootNumber = d.bootNumber := rfl
@[simp] theorem raise_keysAbsent (d : Device) (id : EventId) (r : BitVec 4) : (d.raise id r).keysAbsent = d.keysAbsent := rfl
@[simp] theorem raise_store (d : Device) (id : EventId) (r : BitVec 4) : (d.raise id r).store = d.store := rfl
@[simp] theorem raise_power (d : Device) (id : EventId) (r : BitVec 4) : (d.raise id r).power = d.power := rfl
@[simp] theorem raise_supply (d : Device) (id : EventId) (r : BitVec 4) : (d.raise id r).supply = d.supply := rfl
@[simp] theorem raise_resetCarry (d : Device) (id : EventId) (r : BitVec 4) : (d.raise id r).resetCarry = d.resetCarry := rfl
@[simp] theorem raise_debitsSettled (d : Device) (id : EventId) (r : BitVec 4) : (d.raise id r).debitsSettled = d.debitsSettled := rfl
@[simp] theorem raise_slots (d : Device) (id : EventId) (r : BitVec 4) : (d.raise id r).slots = d.slots := rfl
@[simp] theorem slot_raise (d : Device) (id : EventId) (r : BitVec 4) (i : SlotNo) : (d.raise id r).slot i = d.slot i := rfl
@[simp] theorem raise_system (d : Device) (id : EventId) (r : BitVec 4) :
    (d.raise id r).system = { d.system with events := deliver id r d.system.events } := rfl
@[simp] theorem raise_engine (d : Device) (id : EventId) (r : BitVec 4) :
    (d.raise id r).engine =
      { d.engine with events := if id.toEngine then deliver id r d.engine.events else d.engine.events } := by
  unfold Device.raise Port.deliver; dsimp only; split <;> rfl
@[simp] theorem raiseSlot_eq (d : Device) (kind : SlotEvent) (i : SlotNo) : d.raiseSlot kind i = d.raise (.slot kind i) 0 := rfl
@[simp] theorem raiseReason_eq (d : Device) (r : Reason) : d.raiseReason r = d.raise (.device r.kind) r.bit := rfl

/-! ## Links -/

@[simp] theorem updPort_tick (d : Device) (l : Link) (f : Port → Port) : (d.updPort l f).tick = d.tick := by cases l <;> rfl
@[simp] theorem updPort_framePhase (d : Device) (l : Link) (f : Port → Port) : (d.updPort l f).framePhase = d.framePhase := by cases l <;> rfl
@[simp] theorem updPort_boundaryDue (d : Device) (l : Link) (f : Port → Port) : (d.updPort l f).boundaryDue = d.boundaryDue := by cases l <;> rfl
@[simp] theorem updPort_auditPeriod (d : Device) (l : Link) (f : Port → Port) : (d.updPort l f).auditPeriod = d.auditPeriod := by cases l <;> rfl
@[simp] theorem updPort_auditElapsed (d : Device) (l : Link) (f : Port → Port) : (d.updPort l f).auditElapsed = d.auditElapsed := by cases l <;> rfl
@[simp] theorem updPort_wakeMask (d : Device) (l : Link) (f : Port → Port) : (d.updPort l f).wakeMask = d.wakeMask := by cases l <;> rfl
@[simp] theorem updPort_work (d : Device) (l : Link) (f : Port → Port) : (d.updPort l f).work = d.work := by cases l <;> rfl
@[simp] theorem updPort_seq (d : Device) (l : Link) (f : Port → Port) : (d.updPort l f).seq = d.seq := by cases l <;> rfl
@[simp] theorem updPort_clockRested (d : Device) (l : Link) (f : Port → Port) : (d.updPort l f).clockRested = d.clockRested := by cases l <;> rfl
@[simp] theorem updPort_sensing (d : Device) (l : Link) (f : Port → Port) : (d.updPort l f).sensing = d.sensing := by cases l <;> rfl
@[simp] theorem updPort_spurious (d : Device) (l : Link) (f : Port → Port) : (d.updPort l f).spurious = d.spurious := by cases l <;> rfl
@[simp] theorem updPort_datLow (d : Device) (l : Link) (f : Port → Port) : (d.updPort l f).datLow = d.datLow := by cases l <;> rfl
@[simp] theorem updPort_measure (d : Device) (l : Link) (f : Port → Port) : (d.updPort l f).measure = d.measure := by cases l <;> rfl
@[simp] theorem updPort_keyStore (d : Device) (l : Link) (f : Port → Port) : (d.updPort l f).keyStore = d.keyStore := by cases l <;> rfl
@[simp] theorem updPort_nonceCount (d : Device) (l : Link) (f : Port → Port) : (d.updPort l f).nonceCount = d.nonceCount := by cases l <;> rfl
@[simp] theorem updPort_bootNumber (d : Device) (l : Link) (f : Port → Port) : (d.updPort l f).bootNumber = d.bootNumber := by cases l <;> rfl
@[simp] theorem updPort_keysAbsent (d : Device) (l : Link) (f : Port → Port) : (d.updPort l f).keysAbsent = d.keysAbsent := by cases l <;> rfl
@[simp] theorem updPort_store (d : Device) (l : Link) (f : Port → Port) : (d.updPort l f).store = d.store := by cases l <;> rfl
@[simp] theorem updPort_power (d : Device) (l : Link) (f : Port → Port) : (d.updPort l f).power = d.power := by cases l <;> rfl
@[simp] theorem updPort_supply (d : Device) (l : Link) (f : Port → Port) : (d.updPort l f).supply = d.supply := by cases l <;> rfl
@[simp] theorem updPort_resetCarry (d : Device) (l : Link) (f : Port → Port) : (d.updPort l f).resetCarry = d.resetCarry := by cases l <;> rfl
@[simp] theorem updPort_debitsSettled (d : Device) (l : Link) (f : Port → Port) : (d.updPort l f).debitsSettled = d.debitsSettled := by cases l <;> rfl
@[simp] theorem updPort_slots (d : Device) (l : Link) (f : Port → Port) : (d.updPort l f).slots = d.slots := by cases l <;> rfl
@[simp] theorem slot_updPort (d : Device) (l : Link) (f : Port → Port) (i : SlotNo) : (d.updPort l f).slot i = d.slot i := by
  cases l <;> rfl
/-- The port of a link after its update. -/
@[simp] theorem port_updPort (d : Device) (l : Link) (f : Port → Port) : (d.updPort l f).port l = f (d.port l) := by
  cases l <;> rfl
/-- The port of the other link reads as it did. -/
theorem port_updPort_ne (d : Device) (l k : Link) (f : Port → Port) (h : k ≠ l) : (d.updPort l f).port k = d.port k := by
  cases l <;> cases k <;> first | rfl | exact absurd rfl h
@[simp] theorem updPort_updPort (d : Device) (l : Link) (f g : Port → Port) :
    (d.updPort l f).updPort l g = d.updPort l fun p => g (f p) := by cases l <;> rfl
@[simp] theorem updPort_same (d : Device) (l : Link) : d.updPort l (fun _ => d.port l) = d := by cases l <;> rfl
@[simp] theorem port_updSlot (d : Device) (i : SlotNo) (f : Slot → Slot) (l : Link) : (d.updSlot i f).port l = d.port l := by
  cases l <;> rfl

end Sys2Proof.Laws
end

