-- ==== Sys2Proof/Laws/Events.lean ====
section
/-! SUPPORT. What a delivery does to an event list, and what the reading of a list takes from it (R146, R149). -/

namespace Sys2Proof.Laws

open Sys2Proof Sys2Proof.Machine

/-- A delivery keeps the kinds and slots of a list in their order, and adds its own at the end where it is new. -/
theorem deliver_ids (id : EventId) (r : BitVec 4) (es : List EventEntry) :
    (deliver id r es).map EventEntry.id =
      if id ∈ es.map EventEntry.id then es.map EventEntry.id else es.map EventEntry.id ++ [id] := by
  induction es with
  | nil => rfl
  | cons e es ih =>
    by_cases h : e.id = id
    · simp [deliver, h]
    · simp only [deliver, h, if_false, List.map_cons, ih, List.mem_cons]
      have h' : id ≠ e.id := fun x => h x.symm
      simp only [h', false_or]
      split <;> rfl

/-- A delivery leaves no kind and slot twice. -/
theorem deliver_nodup (id : EventId) (r : BitVec 4) (es : List EventEntry) (h : (es.map EventEntry.id).Nodup) :
    ((deliver id r es).map EventEntry.id).Nodup := by
  rw [deliver_ids]
  split
  · exact h
  · rename_i hn
    rw [List.nodup_append]
    refine ⟨h, List.nodup_singleton _, ?_⟩
    rintro a ha b hb rfl
    exact hn (by rw [List.mem_singleton] at hb; exact hb ▸ ha)

/-- Each entry after a delivery is one from before with another kind or slot, or the one delivered to, whose occurrences
are one more, up to 255. -/
theorem mem_deliver {id : EventId} {r : BitVec 4} {es : List EventEntry} {x : EventEntry} (h : x ∈ deliver id r es) :
    x ∈ es ∨ (x.id = id ∧ 1 ≤ x.occurrences ∧ x.occurrences ≤ 255) := by
  induction es with
  | nil => right; simp [deliver] at h; subst h; exact ⟨rfl, by simp, by simp⟩
  | cons e es ih =>
    by_cases he : e.id = id
    · simp only [deliver, he, if_true, List.mem_cons] at h
      rcases h with rfl | h
      · exact .inr ⟨rfl, by simp only [satAdd]; omega, by simp only [satAdd]; omega⟩
      · exact .inl (.tail _ h)
    · simp only [deliver, he, if_false, List.mem_cons] at h
      rcases h with rfl | h
      · exact .inl (.head _)
      · exact (ih h).imp_left (.tail _)

/-- A list holds a kind and slot after its delivery, and every one that it held. -/
theorem any_deliver (id k : EventId) (r : BitVec 4) (es : List EventEntry) :
    ((deliver id r es).any fun e => decide (e.id = k)) = (decide (k = id) || es.any fun e => decide (e.id = k)) := by
  induction es with
  | nil => simp [deliver, eq_comm]
  | cons e es ih =>
    by_cases he : e.id = id
    · by_cases hk : k = id
      · subst hk; simp [deliver, he]
      · have : ¬id = k := fun x => hk x.symm
        simp [deliver, he, hk, this]
    · simp only [deliver, he, if_false, List.any_cons, ih]
      by_cases hk : k = id <;> simp [hk]

/-- What a reading returns is unmasked, at most as many as asked for, and returns and leftovers are the list's own. -/
theorem takeUnmasked_spec (mask : BitVec 16) (n : Nat) (es : List EventEntry) :
    (takeUnmasked mask n es).1 = (es.filter fun e => !maskedBy mask e).take n ∧
      ((takeUnmasked mask n es).2.filter fun e => !maskedBy mask e) = (es.filter fun e => !maskedBy mask e).drop n ∧
      ((takeUnmasked mask n es).2.filter fun e => maskedBy mask e) = es.filter fun e => maskedBy mask e := by
  induction es generalizing n with
  | nil => cases n <;> simp [takeUnmasked]
  | cons e es ih =>
    cases n with
    | zero => simp [takeUnmasked]
    | succ n =>
      by_cases h : maskedBy mask e = true
      · obtain ⟨a, b, c⟩ := ih (n + 1)
        simp [takeUnmasked, h, a, b, c]
      · have h' : maskedBy mask e = false := by simpa using h
        obtain ⟨a, b, c⟩ := ih n
        simp [takeUnmasked, h', a, b, c]

end Sys2Proof.Laws
end

