-- ==== Sys2Proof/Laws/Gates.lean ====
section
/-! SUPPORT. Everything that the lamp and gate operations can do: each one's result as one update of the slot's gate and
lamp and of the event lists (R117 to R122, R153, R154). -/

namespace Sys2Proof.Laws

open Sys2Proof Sys2Proof.Machine

/-- The device with the gate and the lamp of a slot and the two event lists replaced. -/
def gated (d : Device) (i : SlotNo) (g : GateRecord) (l : LampRecord) (es ss : List EventEntry) : Device :=
  { d.updSlot i (fun s => { s with gate := g, lamp := l }) with
    engine := { d.engine with events := es }, system := { d.system with events := ss } }

@[simp] theorem slot_gated_self (d : Device) (i : SlotNo) (g : GateRecord) (l : LampRecord) (es ss : List EventEntry) :
    (gated d i g l es ss).slot i = { d.slot i with gate := g, lamp := l } := by
  have := slot_updSlot_self d i (fun s => { s with gate := g, lamp := l })
  exact this

@[simp] theorem slot_gated_ne (d : Device) (i j : SlotNo) (g : GateRecord) (l : LampRecord) (es ss : List EventEntry)
    (h : j ≠ i) : (gated d i g l es ss).slot j = d.slot j := by
  have := slot_updSlot_ne d i j (fun s => { s with gate := g, lamp := l }) h
  exact this

/-- Nothing but the record of the slot and the event lists. -/
theorem gated_onlySlotAndEvents (d : Device) (i : SlotNo) (g : GateRecord) (l : LampRecord) (es ss : List EventEntry) :
    Safety.OnlySlotAndEvents d (gated d i g l es ss) i := ⟨rfl, fun j h => slot_gated_ne d i j g l es ss h⟩

theorem gated_self (d : Device) (i : SlotNo) :
    gated d i (d.slot i).gate (d.slot i).lamp d.engine.events d.system.events = d := by
  unfold gated; rw [updSlot_same d i _ rfl]

theorem gated_gated (d : Device) (i : SlotNo) (g g' : GateRecord) (l l' : LampRecord) (es ss es' ss' : List EventEntry) :
    gated (gated d i g l es ss) i g' l' es' ss' = gated d i g' l' es' ss' := by
  apply device_ext_slots
  · rfl
  · intro j
    by_cases h : j = i
    · subst h; simp
    · simp [h]

theorem updLamp_gated (d : Device) (i : SlotNo) (l : LampRecord) :
    d.updLamp i (fun _ => l) = gated d i (d.slot i).gate l d.engine.events d.system.events := by
  apply device_ext_slots
  · rfl
  · intro j
    by_cases h : j = i
    · subst h; simp
    · simp [h]

theorem updGate_gated (d : Device) (i : SlotNo) (g : GateRecord) :
    d.updGate i (fun _ => g) = gated d i g (d.slot i).lamp d.engine.events d.system.events := by
  apply device_ext_slots
  · rfl
  · intro j
    by_cases h : j = i
    · subst h; simp
    · simp [h]

/-- A lamp that is judged has the target its inputs give; its override and locate timer stay, and nothing else changes. -/
theorem lampUpdate_spec (d : Device) (i : SlotNo) :
    ∃ l, d.lampUpdate i = gated d i (d.slot i).gate l d.engine.events d.system.events ∧
      l.target = lampTarget (d.slot i) ∧ l.override = (d.slot i).lamp.override ∧ l.locate = (d.slot i).lamp.locate := by
  unfold Device.lampUpdate
  dsimp only
  split
  · rename_i h; exact ⟨_, (gated_self d i).symm, h.symm, rfl, rfl⟩
  · split
    · exact ⟨{ (d.slot i).lamp with target := lampTarget (d.slot i), shown := .dark, held := false },
        (updLamp_same_rec d i _).trans (updLamp_gated d i _), rfl, rfl, rfl⟩
    · refine ⟨(d.slot i).lamp.take (lampTarget (d.slot i)),
        (updLamp_same_rec d i _).trans (updLamp_gated d i _), ?_, ?_, ?_⟩ <;>
      · unfold LampRecord.take; split
        · rfl
        · split <;> rfl
where
  updLamp_same_rec (d : Device) (i : SlotNo) (f : LampRecord → LampRecord) :
      d.updLamp i f = d.updLamp i (fun _ => f (d.slot i).lamp) := rfl

/-- The events after a gate has moved: GATE on both lists unless the change is silent. -/
theorem setGate_spec (d : Device) (silent : Bool) (i : SlotNo) (g : Gate) (t : Option GraceTimer) :
    d.setGate silent i g t = gated d i { (d.slot i).gate with gate := g, graceTimer := t } (d.slot i).lamp
      (if silent then d.engine.events else deliver (.slot .gate i) 0 d.engine.events)
      (if silent then d.system.events else deliver (.slot .gate i) 0 d.system.events) := by
  have h : d.updGate i (fun r => { r with gate := g, graceTimer := t }) =
      d.updGate i (fun _ => { (d.slot i).gate with gate := g, graceTimer := t }) := rfl
  unfold Device.setGate
  dsimp only
  rw [h, updGate_gated]
  cases silent <;> rfl

/-- A grace timer that expires leaves the gate SEVERED, one forced close more, and GATE on both lists. -/
theorem graceExpires_spec (d : Device) (i : SlotNo) :
    d.graceExpires i = gated d i { (d.slot i).gate with
        forcedCloses := satAdd 255 (d.slot i).gate.forcedCloses 1, gate := .severed, graceTimer := none } (d.slot i).lamp
      (deliver (.slot .gate i) 0 d.engine.events) (deliver (.slot .gate i) 0 d.system.events) := by
  have h : (d.updGate i fun r => { r with forcedCloses := satAdd 255 r.forcedCloses 1 }) =
      d.updGate i (fun _ => { (d.slot i).gate with forcedCloses := satAdd 255 (d.slot i).gate.forcedCloses 1 }) := rfl
  unfold Device.graceExpires
  rw [h, updGate_gated, setGate_spec, gated_gated]
  simp only [slot_gated_self]
  rfl

/-- The state of a gate after it has moved for a cause set: the table of R118 with a drain that ends at once for a grace of
0 (R119). -/
def movedGate (before : GateRecord) (causes : Causes) : Gate :=
  if causes.any = false then .opened
  else if causes.immediate = true then
    (if before.gate = .opened ∨ before.gate = .draining then .severed else before.gate)
  else if before.gate = .opened then (if before.grace = 0 then .severed else .draining)
  else before.gate

/-- A gate move changes the gate, its timer and the forced closes alone, and the event lists unless it is silent or the
gate stays. -/
theorem gateMove_spec (d : Device) (silent : Bool) (i : SlotNo) (causes : Causes) :
    ∃ t n es ss, d.gateMove silent i causes =
        gated d i { (d.slot i).gate with
          gate := movedGate (d.slot i).gate causes, graceTimer := t, forcedCloses := n } (d.slot i).lamp es ss ∧
      (movedGate (d.slot i).gate causes = (d.slot i).gate.gate →
        t = (d.slot i).gate.graceTimer ∧ es = d.engine.events ∧ ss = d.system.events) := by
  have keep : ∀ g, g = (d.slot i).gate.gate → ∃ t n es ss, d = gated d i { (d.slot i).gate with
          gate := g, graceTimer := t, forcedCloses := n } (d.slot i).lamp es ss ∧
      (g = (d.slot i).gate.gate → t = (d.slot i).gate.graceTimer ∧ es = d.engine.events ∧ ss = d.system.events) := by
    rintro g rfl
    exact ⟨_, _, _, _, (gated_self d i).symm, fun _ => ⟨rfl, rfl, rfl⟩⟩
  have move : ∀ g t, g ≠ (d.slot i).gate.gate → ∃ t' n es ss, d.setGate silent i g t = gated d i { (d.slot i).gate with
          gate := g, graceTimer := t', forcedCloses := n } (d.slot i).lamp es ss ∧
      (g = (d.slot i).gate.gate → t' = (d.slot i).gate.graceTimer ∧ es = d.engine.events ∧ ss = d.system.events) :=
    fun g t h => ⟨t, _, _, _, setGate_spec d silent i g t, fun e => absurd e h⟩
  unfold Device.gateMove movedGate
  dsimp only
  by_cases h1 : causes.any = false
  · simp only [h1, Bool.not_false, if_true]
    split
    · rename_i h; exact keep _ h.symm
    · rename_i h; exact move _ _ (fun e => h e.symm)
  · have h1' : causes.any = true := by simpa using h1
    simp only [h1', Bool.not_true, Bool.false_eq_true, if_false, Bool.true_eq_false]
    by_cases h2 : causes.immediate = true
    · simp only [h2, if_true]
      cases hg : (d.slot i).gate.gate with
      | opened => simpa [hg] using move .severed none (by simp [hg])
      | draining => simpa [hg] using move .severed none (by simp [hg])
      | shut => simpa [hg] using keep .shut hg.symm
      | severed => simpa [hg] using keep .severed hg.symm
    · simp only [h2, if_false, Bool.false_eq_true]
      cases hg : (d.slot i).gate.gate with
      | opened =>
        simp only [Device.startDrain, if_true]
        by_cases h3 : (d.slot i).gate.grace = 0
        · simp only [h3, if_true]
          refine ⟨none, satAdd 255 (d.slot i).gate.forcedCloses 1,
            deliver (.slot .gate i) 0 (if silent then d.engine.events else deliver (.slot .gate i) 0 d.engine.events),
            deliver (.slot .gate i) 0 (if silent then d.system.events else deliver (.slot .gate i) 0 d.system.events),
            ?_, fun h => nomatch h⟩
          rw [setGate_spec, graceExpires_spec, gated_gated, slot_gated_self]
          simp [h3, gated]
        · simpa [h3, hg] using move .draining (some ⟨d.tick, (d.slot i).gate.grace⟩) (by simp [hg])
      | draining => simpa [hg] using keep .draining hg.symm
      | shut => simpa [hg] using keep .shut hg.symm
      | severed => simpa [hg] using keep .severed hg.symm

/-- A recomputation leaves the slot's own cause set, moves the gate where it is a changed one, and judges the lamp. -/
theorem recompute_spec (d : Device) (silent : Bool) (i : SlotNo) :
    ∃ g l es ss, d.recompute silent i = gated d i g l es ss ∧ g.causes = causesOf (d.slot i) ∧
      { g with
        causes := (d.slot i).gate.causes, gate := (d.slot i).gate.gate, graceTimer := (d.slot i).gate.graceTimer
        forcedCloses := (d.slot i).gate.forcedCloses } = (d.slot i).gate ∧
      l.target = lampTarget { d.slot i with gate := g } ∧ l.override = (d.slot i).lamp.override ∧
      l.locate = (d.slot i).lamp.locate ∧
      (causesOf (d.slot i) = (d.slot i).gate.causes →
        g = (d.slot i).gate ∧ es = d.engine.events ∧ ss = d.system.events) ∧
      (causesOf (d.slot i) ≠ (d.slot i).gate.causes → g.gate = movedGate (d.slot i).gate (causesOf (d.slot i))) := by
  unfold Device.recompute
  dsimp only
  by_cases h : causesOf (d.slot i) = (d.slot i).gate.causes
  · rw [if_pos h]
    obtain ⟨l, e, t, o, c⟩ := lampUpdate_spec d i
    exact ⟨_, l, _, _, e, h.symm, rfl, t, o, c, fun _ => ⟨rfl, rfl, rfl⟩, fun n => absurd h n⟩
  · rw [if_neg h]
    have hu : (d.updGate i fun r => { r with causes := causesOf (d.slot i) }) =
        d.updGate i (fun _ => { (d.slot i).gate with causes := causesOf (d.slot i) }) := rfl
    rw [hu, updGate_gated]
    obtain ⟨t, n, es, ss, e, -⟩ := gateMove_spec (gated d i { (d.slot i).gate with causes := causesOf (d.slot i) }
      (d.slot i).lamp d.engine.events d.system.events) silent i (causesOf (d.slot i))
    rw [e, gated_gated, slot_gated_self]
    obtain ⟨l, e', t', o, c⟩ := lampUpdate_spec (gated d i { (d.slot i).gate with
      causes := causesOf (d.slot i), gate := movedGate (d.slot i).gate (causesOf (d.slot i)), graceTimer := t
      forcedCloses := n } (d.slot i).lamp es ss) i
    rw [slot_gated_self] at t' o c e'
    refine ⟨_, l, es, ss, e'.trans (gated_gated ..), rfl, rfl, t', o, c, fun x => absurd x h, fun _ => rfl⟩

/-- An admission change leaves the state asked for and recomputes once. -/
theorem setAdmission_spec (d : Device) (i : SlotNo) (a : Admission) :
    ∃ g l es ss, d.setAdmission i a = gated (d.updSlot i fun s => { s with admission := a }) i g l es ss ∧
      g.causes = causesOf { d.slot i with admission := a } ∧ g.level = (d.slot i).gate.level := by
  obtain ⟨g, l, es, ss, e, c, k, -⟩ := recompute_spec (d.updSlot i fun s => { s with admission := a }) false i
  rw [slot_updSlot_self] at c k
  refine ⟨g, l, es, ss, e, c, ?_⟩
  have := congrArg GateRecord.level k
  exact this

end Sys2Proof.Laws
end

