-- ==== Sys2Proof/Laws/Links.lean ====
section
/-! SUPPORT. Everything that the judgement of a whole frame can do (R158, R159), and how a meaning answers. -/

namespace Sys2Proof.Laws

open Sys2Proof Sys2Proof.Machine

/-- A meaning answers a next state with the waiting commands as they were. -/
@[simp] theorem run_eq (s : State) (f : Device → Device) : s.run f = .next { s with dev := (f s.dev).conclude } := rfl

/-- The reply that waited is shifted out and the new one takes its place; nothing else of the device changes. -/
theorem answer_clockOut (d : Device) (l : Link) (n : Nat) (r : Result) (echo : Byte) (payload : List Byte) :
    (d.clockOut l n).answer l r echo payload =
      d.updPort l fun p => { p with shifted := p.reply.shiftOut n, reply := ⟨r, echo, payload⟩ } := by
  cases l <;> rfl

/-- What is left of an answer once the traffic of its transaction is taken out. -/
theorem quiet_answer (d : Device) (l : Link) (n : Nat) (r : Result) (echo : Byte) (payload : List Byte) :
    Safety.quiet d ((d.clockOut l n).answer l r echo payload) l = d := by
  cases l <;> rfl

theorem replies_answer (d : Device) (l : Link) (n : Nat) (r : Result) (echo : Byte) (payload : List Byte) :
    Safety.Replies d ((d.clockOut l n).answer l r echo payload) l n r echo payload := by
  cases l <;> exact ⟨rfl, rfl⟩

/-- A frame is answered with the result of the first check it fails, or else the command is taken. -/
theorem judge_cases {α : Type} (c : Command α) (f : Frame) (d : Device) (h : f.payload.length ≤ maxPayload) :
    (∃ r, c.judge f d = (d.clockOut f.link (Safety.clocked f)).answer f.link r c.code [] ∧
      ((d.resetCarry = true ∧ r = .busy) ∨
       (d.resetCarry = false ∧ c.permits f.link = false ∧ r = .notPermitted) ∨
       (d.resetCarry = false ∧ c.permits f.link = true ∧ d.power = .standby ∧ c.inStandby = false ∧ r = .asleep) ∨
       (d.resetCarry = false ∧ c.permits f.link = true ∧ (d.power = .standby → c.inStandby = true) ∧
          c.read f.payload = none ∧ r = .invalid))) ∨
    (∃ a, d.resetCarry = false ∧ c.permits f.link = true ∧ (d.power = .standby → c.inStandby = true) ∧
      c.read f.payload = some a ∧
      c.judge f d =
        (c.act f.link a (d.clockOut f.link (Safety.clocked f))).dev.answer f.link
          (c.act f.link a (d.clockOut f.link (Safety.clocked f))).result c.code
          (c.act f.link a (d.clockOut f.link (Safety.clocked f))).payload) := by
  have hn : ¬maxPayload < f.payload.length := Nat.not_lt.mpr h
  unfold Command.judge Safety.clocked
  dsimp only
  rw [if_neg hn]
  cases hr : d.resetCarry with
  | true => exact .inl ⟨.busy, rfl, .inl ⟨rfl, rfl⟩⟩
  | false =>
    cases hp : c.permits f.link with
    | false => exact .inl ⟨.notPermitted, rfl, .inr (.inl ⟨rfl, rfl, rfl⟩)⟩
    | true =>
      simp only [Bool.false_eq_true, if_false, Bool.not_true]
      by_cases hs : d.power = .standby ∧ c.inStandby = false
      · refine .inl ⟨.asleep, ?_, .inr (.inr (.inl ⟨trivial, trivial, hs.1, hs.2, rfl⟩))⟩
        rw [if_pos (by simp [hs.1, hs.2])]
      · rw [if_neg (by simpa using hs)]
        have hi : d.power = .standby → c.inStandby = true := by
          intro x; by_contra y; exact hs ⟨x, by simpa using y⟩
        cases ha : c.read f.payload with
        | none => exact .inl ⟨.invalid, rfl, .inr (.inr (.inr ⟨trivial, trivial, hi, rfl, rfl⟩))⟩
        | some a => exact .inr ⟨a, trivial, trivial, hi, rfl, rfl⟩

end Sys2Proof.Laws
end

