-- ==== Sys2Proof/Laws/Metering.lean ====
section
/-! SUPPORT. What the accumulation and the judgement of a DEBIT do to the metering fields (R83, R84, R97, R99 to R102). -/

namespace Sys2Proof.Laws

open Sys2Proof Sys2Proof.Machine

/-- A saturating addition is the smaller of the limit and the sum. -/
theorem satAdd_eq (limit a b : Nat) : satAdd limit a b = min limit (a + b) := rfl
theorem satAdd_le (limit a b : Nat) : satAdd limit a b ≤ limit := Nat.min_le_left _ _

/-- The whole effect of an accumulation: residue, metered amount, pending and the saturated flag. -/
theorem accumulate_eq (m : Meter) (a : Nat) :
    m.accumulate a = { m with
      residue := (m.residue + a) % 16000000
      metered := min 4294967295 (m.metered + (m.residue + a) / 16000000)
      pending := min 4294967295 (m.pending + (m.residue + a) / 16000000)
      saturated := m.saturated || decide (4294967295 < m.metered + (m.residue + a) / 16000000) ||
        decide (4294967295 < m.pending + (m.residue + a) / 16000000) } := rfl

/-- The residue stays below a microlitre. -/
theorem accumulate_residue (m : Meter) (a : Nat) : (m.accumulate a).residue < quantaPerMicrolitre :=
  Nat.mod_lt _ (by decide)

/-- The remaining ink of an open account (R90). -/
theorem remaining_eq (m : Meter) (c : Nat) (h : m.capacity = some c) :
    m.remaining = some ((c : Int) - m.confirmed - m.inFlight.getD 0 - m.pending) := by
  simp [Meter.remaining, h]

/-- Of the account, the grant of a DEBIT changes pending and in-flight alone, and not the remaining ink. -/
theorem grantDebit_remaining (m : Meter) (h : m.inFlight = none) : m.grantDebit.remaining = m.remaining := by
  unfold Meter.remaining Meter.grantDebit
  cases m.capacity with
  | none => rfl
  | some c => simp [h]

/-- Neither does the folding of an in-flight amount back into pending that does not saturate. -/
theorem foldInFlight_remaining (m : Meter) (h : m.pending + m.inFlight.getD 0 ≤ max32) :
    m.foldInFlight.remaining = m.remaining := by
  unfold Meter.remaining Meter.foldInFlight Meter.addPending
  cases m.capacity with
  | none => rfl
  | some c =>
    show some ((c : Int) - m.confirmed - (0 : Nat) - (min max32 (m.pending + m.inFlight.getD 0) : Nat)) =
      some ((c : Int) - m.confirmed - (m.inFlight.getD 0 : Nat) - m.pending)
    rw [Nat.min_eq_right h]
    congr 1
    push_cast
    omega

/-- A judgement never changes the residue, the metered amount, the carried-in amount or the capacity. -/
theorem judgeDebit_frame (m : Meter) (expected amount : Nat) (reconciled : Bool) (status : DebitStatus) (usedAfter : Nat) :
    (judgeDebit m expected amount reconciled status usedAfter).meter.residue = m.residue ∧
    (judgeDebit m expected amount reconciled status usedAfter).meter.metered = m.metered ∧
    (judgeDebit m expected amount reconciled status usedAfter).meter.carriedIn = m.carriedIn ∧
    (judgeDebit m expected amount reconciled status usedAfter).meter.capacity = m.capacity ∧
    (judgeDebit m expected amount reconciled status usedAfter).meter.refreshBase = m.refreshBase := by
  cases status with
  | applied => simp only [judgeDebit, judgeApplied]; split <;> exact ⟨rfl, rfl, rfl, rfl, rfl⟩
  | refused => exact ⟨rfl, rfl, rfl, rfl, rfl⟩
  | stale =>
    simp only [judgeDebit]
    split
    · simp only [judgeReconciled]; split <;> exact ⟨rfl, rfl, rfl, rfl, rfl⟩
    · exact ⟨rfl, rfl, rfl, rfl, rfl⟩

/-- A follow-on exchange is called for exactly by a STALE reply that an uncertain record of a smaller amount explains. -/
theorem judgeDebit_followOn (m : Meter) (expected amount : Nat) (reconciled : Bool) (status : DebitStatus)
    (usedAfter : Nat) : (judgeDebit m expected amount reconciled status usedAfter).outcome = none ↔
      status = .stale ∧ ∃ a, reconciles m expected usedAfter = some a ∧ a < amount := by
  cases status with
  | applied => simp only [judgeDebit, judgeApplied]; split <;> simp
  | refused => simp [judgeDebit, judgeRefused]
  | stale =>
    simp only [judgeDebit]
    cases h : reconciles m expected usedAfter with
    | none => simp [judgeStale]
    | some a =>
      simp only [judgeReconciled, Option.some.injEq, true_and, exists_eq_left']
      split <;> simp <;> omega

end Sys2Proof.Laws
end

