-- ==== Sys2Proof/Laws/Work.lean ====
section
/-! SUPPORT. Everything that a request, a cancellation and a purge of the Work List can do (R38 to R42, R51, R52). -/

namespace Sys2Proof.Laws

open Sys2Proof Sys2Proof.Machine

/-- Whether an entry is for a kind and slot, said of its job. -/
theorem isFor_iff (e : Entry) (kind : WorkKind) (i : SlotNo) :
    e.isFor kind i = true ↔ ∃ n, e.job = .onSlot kind i n := by
  unfold Entry.isFor
  cases h : e.job with
  | scan => simp
  | onSlot k j n => simp

/-- Whether an entry is for a slot, said of its job. -/
theorem isOn_iff (e : Entry) (i : SlotNo) : e.isOn i = true ↔ ∃ k n, e.job = .onSlot k i n := by
  unfold Entry.isOn
  cases h : e.job with
  | scan => simp
  | onSlot k j n => simp

/-- The entry found for a kind and slot is listed, and is for them. -/
theorem findEntry_some {d : Device} {kind : WorkKind} {i : SlotNo} {e : Entry} (h : d.findEntry kind i = some e) :
    e ∈ d.work ∧ ∃ n, e.job = .onSlot kind i n := by
  unfold Device.findEntry at h
  have : e.isFor kind i = true := by simpa using List.find?_some h
  exact ⟨List.mem_of_find?_eq_some h, (isFor_iff e kind i).mp this⟩

/-- None is found exactly where none is listed. -/
theorem findEntry_none (d : Device) (kind : WorkKind) (i : SlotNo) :
    d.findEntry kind i = none ↔ ∀ e ∈ d.work, ∀ n, e.job ≠ .onSlot kind i n := by
  unfold Device.findEntry
  rw [List.find?_eq_none]
  constructor
  · intro h e he n x; exact h e he ((isFor_iff e kind i).mpr ⟨n, x⟩)
  · intro h e he x; obtain ⟨n, y⟩ := (isFor_iff e kind i).mp x; exact h e he n y

/-- DONE is one event on the System list, or none. -/
theorem raiseDone_eq (d : Device) (o : Origins) (i : SlotNo) :
    d.raiseDone o i =
      { d with system := { d.system with
        events := if o.system then deliver (.slot .done i) 0 d.system.events else d.system.events } } := by
  unfold Device.raiseDone; cases o.system <;> rfl

@[simp] theorem slot_raiseDone (d : Device) (o : Origins) (i j : SlotNo) : (d.raiseDone o i).slot j = d.slot j := by
  rw [raiseDone_eq]; rfl

/-- A cancellation drops the entry, writes the last sequence, and raises DONE for the System. -/
theorem cancelEntry_eq (d : Device) (kind : WorkKind) (i : SlotNo) (o : Origins) :
    d.cancelEntry kind i o =
      { d.updSlot i (fun s => { s with lastSequence := some ⟨kind, .cancelled, none, 0⟩ }) with
        work := d.work.filter fun e => !e.isFor kind i
        system := { d.system with
          events := if o.system then deliver (.slot .done i) 0 d.system.events else d.system.events } } := by
  unfold Device.cancelEntry
  dsimp only
  rw [raiseDone_eq]
  rfl

/-- A request leaves nothing for a VACANT slot; merges into a listed entry or cancels it; is declined; or is listed. -/
theorem request_cases (d : Device) (kind : WorkKind) (i : SlotNo) (o : Origins) (w : Wanted) :
    ((d.slot i).admission = .vacant ∧ d.request kind i o w = (.noCartridge, d)) ∨
    (∃ e, (d.slot i).admission ≠ .vacant ∧ d.findEntry kind i = some e ∧
      cancels (d.slot i) kind (e.wanted.union w) = true ∧
      d.request kind i o w = (.merged, d.cancelEntry kind i (e.origins.union o))) ∨
    (∃ e u, (d.slot i).admission ≠ .vacant ∧ d.findEntry kind i = some e ∧
      cancels (d.slot i) kind (e.wanted.union w) = false ∧ (u = true → kind = .debit ∧ d.power = .windingDown) ∧
      d.request kind i o w = (.merged, d.mapEntry kind i fun x =>
        { x with origins := e.origins.union o, wanted := e.wanted.union w, urgent := x.urgent || u })) ∨
    ((d.slot i).admission ≠ .vacant ∧ d.findEntry kind i = none ∧ cancels (d.slot i) kind w = true ∧
      d.request kind i o w = (.accepted, d.raiseDone o i)) ∨
    (∃ u, (d.slot i).admission ≠ .vacant ∧ d.findEntry kind i = none ∧ cancels (d.slot i) kind w = false ∧
      (u = true → kind = .debit ∧ d.power = .windingDown) ∧
      d.request kind i o w =
        (.accepted, { d with work := d.work ++ [⟨.onSlot kind i (d.slot i).insertion, o, u, w⟩] })) := by
  unfold Device.request
  dsimp only
  by_cases h : (d.slot i).admission = .vacant
  · exact .inl ⟨h, by rw [if_pos h]⟩
  · rw [if_neg h]
    cases hf : d.findEntry kind i with
    | some e =>
      dsimp only
      cases hc : cancels (d.slot i) kind (e.wanted.union w) with
      | true => exact .inr (.inl ⟨e, h, rfl, hc, rfl⟩)
      | false =>
        refine .inr (.inr (.inl ⟨e, _, h, rfl, hc, ?_, rfl⟩))
        intro u; simp only [Bool.and_eq_true, decide_eq_true_eq] at u; exact u.1
    | none =>
      dsimp only
      cases hc : cancels (d.slot i) kind w with
      | true => exact .inr (.inr (.inr (.inl ⟨h, rfl, rfl, rfl⟩)))
      | false =>
        refine .inr (.inr (.inr (.inr ⟨_, h, rfl, rfl, ?_, rfl⟩)))
        intro u; simp only [Bool.and_eq_true, decide_eq_true_eq] at u; exact u.1

/-- A request changes the Work List, the slot's last sequence and the System list, and nothing else. -/
theorem request_frame (d : Device) (kind : WorkKind) (i : SlotNo) (o : Origins) (w : Wanted) :
    ∃ work last ss, (d.request kind i o w).2 =
      { d.updSlot i (fun s => { s with lastSequence := last }) with
        work := work, system := { d.system with events := ss } } := by
  have same : d.updSlot i (fun s => { s with lastSequence := (d.slot i).lastSequence }) = d := updSlot_same d i _ rfl
  have keep : ∀ work ss, ({ d with work := work, system := { d.system with events := ss } } : Device) =
      { d.updSlot i (fun s => { s with lastSequence := (d.slot i).lastSequence }) with
        work := work, system := { d.system with events := ss } } := by intro work ss; rw [same]
  rcases request_cases d kind i o w with ⟨-, e⟩ | ⟨x, -, -, -, e⟩ | ⟨x, u, -, -, -, -, e⟩ | ⟨-, -, -, e⟩ | ⟨u, -, -, -, -, e⟩
  · rw [e]; exact ⟨d.work, _, d.system.events, keep d.work d.system.events⟩
  · rw [e, cancelEntry_eq]; exact ⟨_, _, _, rfl⟩
  · rw [e]; exact ⟨_, _, d.system.events, keep _ d.system.events⟩
  · rw [e, raiseDone_eq]; exact ⟨d.work, _, _, keep d.work _⟩
  · rw [e]; exact ⟨_, _, d.system.events, keep _ d.system.events⟩

/-- DONEs alone follow a purge; the entries of the slot are gone and all others stay in their order. -/
theorem purge_spec (d : Device) (i : SlotNo) :
    ∃ ss, d.purge i =
      { d with work := d.work.filter (fun e => !e.isOn i), system := { d.system with events := ss } } := by
  have key : ∀ (es : List Entry) (d : Device), ∃ ss, d.raiseDones i es = { d with system := { d.system with events := ss } } := by
    intro es
    induction es with
    | nil => intro d; exact ⟨d.system.events, rfl⟩
    | cons e es ih =>
      intro d
      obtain ⟨ss, h⟩ := ih (d.raiseDone e.origins i)
      refine ⟨ss, ?_⟩
      rw [Device.raiseDones, h, raiseDone_eq]
  obtain ⟨ss, h⟩ := key (d.work.filter fun e => e.isOn i) { d with work := d.work.filter fun e => !e.isOn i }
  exact ⟨ss, h⟩

end Sys2Proof.Laws
end

