-- ==== Sys2Proof/Laws/Sequences.lean ====
section
/-! SUPPORT. Everything that a reclassification, the end of a sequence, an abort and the sending of a request can do (R114,
R48, R50, R20, R27). -/

namespace Sys2Proof.Laws

open Sys2Proof Sys2Proof.Machine

/-- A slot whose class is the one stored stays as it is; another class is stored with LEVEL on both lists, and the cause
set is recomputed with it. -/
theorem reclassify_spec (d : Device) (i : SlotNo) :
    (levelOf (d.slot i).meter (d.slot i).gate = (d.slot i).gate.level ∧ d.reclassify i = (d, false)) ∨
    (levelOf (d.slot i).meter (d.slot i).gate ≠ (d.slot i).gate.level ∧ ∃ g l es ss,
      d.reclassify i =
        (gated d i g l es ss, debitLevel (d.slot i).gate.level (levelOf (d.slot i).meter (d.slot i).gate)) ∧
      g.level = levelOf (d.slot i).meter (d.slot i).gate ∧
      g.causes = causesOf { d.slot i with
        gate := { (d.slot i).gate with level := levelOf (d.slot i).meter (d.slot i).gate } }) := by
  unfold Device.reclassify
  dsimp only
  by_cases h : levelOf (d.slot i).meter (d.slot i).gate = (d.slot i).gate.level
  · exact .inl ⟨h, by rw [if_pos h]⟩
  · refine .inr ⟨h, ?_⟩
    rw [if_neg h]
    have e : (d.updGate i fun r => { r with level := levelOf (d.slot i).meter (d.slot i).gate }).raiseSlot .level i =
        gated d i { (d.slot i).gate with level := levelOf (d.slot i).meter (d.slot i).gate } (d.slot i).lamp
          (deliver (.slot .level i) 0 d.engine.events) (deliver (.slot .level i) 0 d.system.events) := by
      have u : (d.updGate i fun r => { r with level := levelOf (d.slot i).meter (d.slot i).gate }) =
          d.updGate i (fun _ => { (d.slot i).gate with level := levelOf (d.slot i).meter (d.slot i).gate }) := rfl
      rw [u, updGate_gated]; rfl
    rw [e]
    obtain ⟨g, l, es, ss, r, c, k, -⟩ := recompute_spec
      (gated d i { (d.slot i).gate with level := levelOf (d.slot i).meter (d.slot i).gate } (d.slot i).lamp
        (deliver (.slot .level i) 0 d.engine.events) (deliver (.slot .level i) 0 d.system.events)) false i
    rw [slot_gated_self] at c k
    refine ⟨g, l, es, ss, ?_, ?_, c⟩
    · rw [r, gated_gated]
    · have := congrArg GateRecord.level k
      exact this

/-- A reclassification leaves every slot's metering fields and admission state as they were. -/
theorem slot_reclassify (d : Device) (i j : SlotNo) :
    ((d.reclassify i).1.slot j).meter = (d.slot j).meter ∧
      ((d.reclassify i).1.slot j).admission = (d.slot j).admission := by
  rcases reclassify_spec d i with ⟨-, e⟩ | ⟨-, g, l, es, ss, e, -⟩
  · rw [e]; exact ⟨rfl, rfl⟩
  · rw [e]
    by_cases h : j = i
    · subst h; rw [slot_gated_self]; exact ⟨rfl, rfl⟩
    · rw [slot_gated_ne d i j g l es ss h]; exact ⟨rfl, rfl⟩

/-- After a reclassification the stored class is the one that the metering fields give. -/
theorem level_reclassify (d : Device) (i : SlotNo) :
    ((d.reclassify i).1.slot i).gate.level = levelOf (d.slot i).meter (d.slot i).gate := by
  rcases reclassify_spec d i with ⟨h, e⟩ | ⟨-, g, l, es, ss, e, k, -⟩
  · rw [e, h]
  · rw [e, slot_gated_self]; exact k

/-- A sequence whose insertion number is the slot's own ends with what its owner does, the last sequence and DONE. -/
theorem finishSlot_current (d : Device) (q : Sequence) (kind : WorkKind) (i : SlotNo) (n : BitVec 8)
    (outcome : SeqOutcome) (act : Device → Device) (h : (d.slot i).insertion = n) :
    d.finishSlot q kind i n outcome act =
      { ((act d).updSlot i fun s => { s with lastSequence := some ⟨kind, outcome, q.step, q.attempts⟩ }).raiseDone
          q.origins i with seq := none } := by
  unfold Device.finishSlot; rw [if_pos h]

/-- A stale one ends with DONE alone. -/
theorem finishSlot_stale (d : Device) (q : Sequence) (kind : WorkKind) (i : SlotNo) (n : BitVec 8)
    (outcome : SeqOutcome) (act : Device → Device) (h : (d.slot i).insertion ≠ n) :
    d.finishSlot q kind i n outcome act = { d.raiseDone q.origins i with seq := none } := by
  unfold Device.finishSlot; rw [if_neg h]

/-- After the end of a sequence none is in flight. -/
@[simp] theorem finishSlot_seq (d : Device) (q : Sequence) (kind : WorkKind) (i : SlotNo) (n : BitVec 8)
    (outcome : SeqOutcome) (act : Device → Device) : (d.finishSlot q kind i n outcome act).seq = none := rfl

/-- A sequence that is a scan, or on another slot, is not aborted. -/
theorem abortOn_other (d : Device) (i : SlotNo) (h : ∀ q kind n, d.seq = some q → q.job ≠ .onSlot kind i n) :
    d.abortOn i = d := by
  unfold Device.abortOn
  cases hs : d.seq with
  | none => rfl
  | some q =>
    dsimp only
    cases hj : q.job with
    | scan => rfl
    | onSlot kind j n =>
      have : j ≠ i := fun e => h q kind n hs (e ▸ hj)
      simp [this]

/-- An abort leaves the metering fields of every slot as they were, but for a DEBIT's on its own slot. -/
theorem meter_abortOn (d : Device) (i j : SlotNo) :
    ((d.abortOn i).slot j).meter = (d.slot j).meter ∨
      (j = i ∧ ∃ q n, d.seq = some q ∧ q.job = .onSlot .debit i n ∧
        ((d.abortOn i).slot j).meter = (d.slot j).meter.abortDebit q.expected q.amount) := by
  have out : ∀ e : Device, ∀ b : Bool,
      ((if b then ({ e with seq := none } : Device) else ({ e with seq := none } : Device).goIdle).slot j) = e.slot j := by
    intro e b; cases b <;> rfl
  unfold Device.abortOn
  cases hs : d.seq with
  | none => exact .inl rfl
  | some q =>
    dsimp only
    cases hj : q.job with
    | scan => exact .inl rfl
    | onSlot kind k n =>
      dsimp only
      by_cases hk : k = i
      · rw [if_pos hk, out, slot_raiseDone, slot_updSlot]
        subst hk
        by_cases hd : kind = .debit
        · by_cases h : j = k
          · subst h hd
            exact .inr ⟨rfl, q, n, rfl, hj, by simp⟩
          · left; simp [h, hd]
        · left; by_cases h : j = k <;> simp [h, hd]
      · rw [if_neg hk]; exact .inl rfl

/-! ## Requests under way (R20, R27) -/

/-- A cartridge that hears a request changes nothing of its slot but itself. -/
theorem hearRequest_frame (s : Slot) (packet : List Byte) :
    { (s.hearRequest packet).1 with cartridge := s.cartridge } = s := by
  unfold Slot.hearRequest
  repeat' split
  all_goals rfl

/-- The end of a request changes nothing of the device but its slots and the sequence. -/
@[simp] theorem sendRequest_frame (d : Device) (q : Sequence) (kind : WorkKind) (i : SlotNo) (whole : BitVec 8) :
    { d.sendRequest q kind i whole with seq := d.seq, slots := d.slots } = d := by
  unfold Device.sendRequest; split <;> rfl

/-- Of the slots it changes its own cartridge alone. -/
theorem slot_sendRequest (d : Device) (q : Sequence) (kind : WorkKind) (i j : SlotNo) (whole : BitVec 8) :
    { (d.sendRequest q kind i whole).slot j with cartridge := (d.slot j).cartridge } = d.slot j ∧
      (j ≠ i → (d.sendRequest q kind i whole).slot j = d.slot j) := by
  have e : (d.sendRequest q kind i whole).slot j =
      (d.updSlot i fun s =>
        (if whole.getLsbD i.val then s.hearRequest (requestPacket kind (q.parameters kind)) else (s, none)).1).slot j := rfl
  rw [e, slot_updSlot]
  by_cases h : j = i
  · subst h
    simp only [if_pos]
    refine ⟨?_, fun n => absurd rfl n⟩
    split
    · exact hearRequest_frame _ _
    · rfl
  · simp [h]

/-- After the end of a request the sequence waits, with REQUEST SENT reached and the reply that its cartridge prepared. -/
theorem seq_sendRequest (d : Device) (q : Sequence) (kind : WorkKind) (i : SlotNo) (whole : BitVec 8) :
    (d.sendRequest q kind i whole).seq = some { q with
      step := some .requestSent, phase := .waiting d.tick
      prepared :=
        if whole.getLsbD i.val then ((d.slot i).hearRequest (requestPacket kind (q.parameters kind))).2 else none } := by
  unfold Device.sendRequest; split <;> rfl

/-- No request is under way: nothing ends. -/
theorem requestEnds_none (d : Device)
    (h : ∀ q, d.seq = some q →
      (∀ w, q.phase ≠ .claimed w) ∧ ∀ w x, q.phase ≠ .selecting w x ∧ q.phase ≠ .sending w x) : d.requestEnds = d := by
  unfold Device.requestEnds
  cases hs : d.seq with
  | none => rfl
  | some q =>
    obtain ⟨hc, hr⟩ := h q hs
    cases hp : q.phase with
    | claimed w => exact absurd hp (hc w)
    | selecting w x => exact absurd hp (hr w x).1
    | sending w x => exact absurd hp (hr w x).2
    | waiting _ | receiving _ | scanning _ | idle _ => simp [hp]

/-- A failed exchange below three attempts leaves the bus idle before a further one, and charges its slot. -/
theorem failExchange_again (d : Device) (q : Sequence) (kind : WorkKind) (i : SlotNo) (n : BitVec 8)
    (hj : q.job = .onSlot kind i n) (ha : q.attempts < 3) :
    d.failExchange q =
      (({ d with seq := some { q with phase := .idle d.tick, prepared := none, proveHold := none } }).goIdle).updSlot i
        fun s => s.exchangeFailed kind n q.expected q.amount := by
  unfold Device.failExchange
  rw [hj, if_pos (show q.attempts < maxAttempts from ha)]

end Sys2Proof.Laws
end

