-- ==== Sys2Proof/Laws/Store.lean ====
section
/-! SUPPORT. Everything that the queueing, the start and the commit of a write can do (R130, R131, R136), and the reading of
the items after it. -/

namespace Sys2Proof.Laws

open Sys2Proof Sys2Proof.Machine

/-- Queueing a write changes the queue alone. -/
theorem enqueue_frame (st : Store) (w : StoreWrite) (carry : Bool) :
    { st.enqueue w carry with queue := st.queue } = st := by
  unfold Store.enqueue; split <;> rfl

/-- The items queued: those from before in their order, and the write's own at the end where it is new. -/
theorem enqueue_items (st : Store) (w : StoreWrite) (carry : Bool) :
    (st.enqueue w carry).queue.map (fun x => x.write.item) =
      if w.item ∈ st.queue.map (fun x => x.write.item) then st.queue.map (fun x => x.write.item)
      else st.queue.map (fun x => x.write.item) ++ [w.item] := by
  have h : (st.queue.any fun x => decide (x.write.item = w.item)) = true ↔ w.item ∈ st.queue.map (fun x => x.write.item) := by
    simp
  unfold Store.enqueue
  by_cases c : (st.queue.any fun x => decide (x.write.item = w.item)) = true
  · rw [if_pos c, if_pos (h.mp c)]
    simp only [List.map_map]
    apply List.map_congr_left
    intro x _
    by_cases e : x.write.item = w.item <;> simp [e]
  · rw [if_neg c, if_neg (fun x => c (h.mpr x))]
    simp

/-- Queueing keeps one write for each item. -/
theorem enqueue_nodup (st : Store) (w : StoreWrite) (carry : Bool)
    (h : (st.queue.map fun x => x.write.item).Nodup) : ((st.enqueue w carry).queue.map fun x => x.write.item).Nodup := by
  rw [enqueue_items]
  split
  · exact h
  · rename_i n
    rw [List.nodup_append]
    refine ⟨h, List.nodup_singleton _, ?_⟩
    rintro a ha b hb rfl
    rw [List.mem_singleton] at hb
    exact n (hb ▸ ha)

/-- The write is queued, as CARRY if it was asked for as CARRY. -/
theorem enqueue_mem (st : Store) (w : StoreWrite) (carry : Bool) :
    ∃ x ∈ (st.enqueue w carry).queue, x.write = w ∧ (carry = true → x.carry = true) := by
  unfold Store.enqueue
  split
  · rename_i h
    simp only [List.any_eq_true, decide_eq_true_eq] at h
    obtain ⟨x, hx, e⟩ := h
    exact ⟨⟨w, x.carry || carry⟩, List.mem_map.mpr ⟨x, hx, by rw [if_pos e]⟩, rfl, fun c => by simp [c]⟩
  · exact ⟨⟨w, carry⟩, by simp, rfl, id⟩

/-- Every queued write of another item stands as it stood. -/
theorem enqueue_other (st : Store) (w : StoreWrite) (carry : Bool) (x : QueuedWrite) (h : x.write.item ≠ w.item) :
    x ∈ (st.enqueue w carry).queue ↔ x ∈ st.queue := by
  unfold Store.enqueue
  split
  · simp only [List.mem_map]
    constructor
    · rintro ⟨y, hy, e⟩
      split at e
      · subst e; exact absurd rfl h
      · exact e ▸ hy
    · intro hx; exact ⟨x, hx, by rw [if_neg h]⟩
  · simp only [List.mem_append, List.mem_singleton]
    constructor
    · rintro (hx | rfl)
      · exact hx
      · exact absurd rfl h
    · exact .inl

/-- A write of a slot's history entry: nothing where the slot has no identity to write under or no place is left; else
one write queued, HISTORY with reason LOSS where it evicts unposted ink, and the refresh base. -/
theorem writeHistory_spec (d : Device) (i : SlotNo) (carry : Bool) (merge : Option Nat) :
    d.writeHistory i carry merge = d ∨
    ∃ id p loss, (d.slot i).writtenIdentity = some id ∧ d.placeFor id.serial = some (p, loss) ∧
      d.writeHistory i carry merge =
        ({ (if loss = true then d.raiseReason .historyLoss else d) with
            store := d.store.enqueue (.entry p (d.entryContent i id merge)) carry }).updMeter i
          fun m => { m with refreshBase := some (d.entryContent i id merge).recordedUsed } := by
  unfold Device.writeHistory
  cases hw : (d.slot i).writtenIdentity with
  | none => exact .inl rfl
  | some id =>
    dsimp only
    cases hp : d.placeFor id.serial with
    | none => exact .inl rfl
    | some x =>
      obtain ⟨p, loss⟩ := x
      refine .inr ⟨id, p, loss, rfl, hp, ?_⟩
      cases loss <;> rfl

/-- A write of a history entry leaves every slot's record as it was, but for the refresh base of its own slot. -/
theorem slot_writeHistory (d : Device) (i j : SlotNo) (carry : Bool) (merge : Option Nat) :
    ∃ b, (d.writeHistory i carry merge).slot j = { d.slot j with meter := { (d.slot j).meter with refreshBase := b } } ∧
      (j ≠ i → b = (d.slot j).meter.refreshBase) := by
  rcases writeHistory_spec d i carry merge with e | ⟨id, p, loss, -, -, e⟩
  · exact ⟨_, by rw [e], fun _ => rfl⟩
  · rw [e, updMeter_eq, slot_updSlot]
    have hs : ∀ k, ({ (if loss = true then d.raiseReason .historyLoss else d) with
        store := d.store.enqueue (.entry p (d.entryContent i id merge)) carry } : Device).slot k = d.slot k := by
      intro k; cases loss <;> rfl
    split
    · subst_vars; rw [hs]; exact ⟨_, rfl, fun h => absurd rfl h⟩
    · rw [hs]; exact ⟨_, rfl, fun _ => rfl⟩

/-- A write of a history entry changes the store's queue, the event lists and a refresh base, and nothing else. -/
theorem writeHistory_frame (d : Device) (i : SlotNo) (carry : Bool) (merge : Option Nat) :
    ∃ slots queue es ss, d.writeHistory i carry merge =
      { d with
        slots := slots, store := { d.store with queue := queue }
        engine := { d.engine with events := es }, system := { d.system with events := ss } } := by
  rcases writeHistory_spec d i carry merge with e | ⟨id, p, loss, -, -, e⟩
  · exact ⟨d.slots, d.store.queue, d.engine.events, d.system.events, e⟩
  · have hq : d.store.enqueue (.entry p (d.entryContent i id merge)) carry =
        { d.store with queue := (d.store.enqueue (.entry p (d.entryContent i id merge)) carry).queue } := by
      unfold Store.enqueue; split <;> rfl
    rw [hq] at e
    cases loss
    · exact ⟨_, _, d.engine.events, d.system.events, e⟩
    · exact ⟨_, _, d.engine.events, _, e⟩

/-! ## The two copies of an item (R128, R131) -/

/-- A write that starts leaves every stored content as it was. -/
theorem startWrite_stored (st : Store) (w : QueuedWrite) (now : Tick) :
    (st.startWrite w now).entries = st.entries ∧ (st.startWrite w now).header = st.header ∧
      (st.startWrite w now).key = st.key ∧ (st.startWrite w now).workingSeen = st.workingSeen := by
  rcases w with ⟨w, carry⟩; cases w <;> exact ⟨rfl, rfl, rfl, rfl⟩

/-- A commit of an entry exchanges the two copies of its place and changes no other place. -/
theorem commit_entry (st : Store) (p q : Place) (e : HistoryEntry) :
    (st.commit (.entry p e)).entries.get q = (if q = p then some e else st.entries.get q) ∧
      (st.commit (.entry p e)).spareEntries.get q =
        (if q = p then Spare.ofStored (st.entries.get p) else st.spareEntries.get q) := by
  have ne : q ≠ p → p.val ≠ q.val := fun h c => h (Fin.ext c.symm)
  by_cases h : q = p
  · subst h; simp [Store.commit, Vector.get_eq_getElem]
  · simp [Store.commit, Vector.get_eq_getElem, h, Vector.getElem_set_ne, ne h]

@[simp] theorem commit_header (st : Store) (h : Header) : st.commit (.header h) =
    { st with header := some h, spareHeader := Spare.ofStored st.header, writing := none } := rfl

@[simp] theorem commit_key (st : Store) (k : Key) : st.commit (.key k) =
    { st with key := some k, spareKey := Spare.ofStored st.key, writing := none } := rfl

end Sys2Proof.Laws
end

