-- ==== Sys2Proof/Laws/Traffic.lean ====
section
/-! SUPPORT. The traffic of a link (the reply that waits and the bytes shifted out) is read and written by the link's own
transactions alone: the records of a tally, and a read on the other link, act as if it were not there. -/

namespace Sys2Proof.Laws

open Sys2Proof Sys2Proof.Machine

/-- The device with other traffic on the Engine Link. -/
def traffic (r : Reply) (m : List Byte) (d : Device) : Device := d.updPort .engine fun p => { p with reply := r, shifted := m }

variable (r : Reply) (m : List Byte) (d : Device)

@[simp] theorem traffic_slot (i : SlotNo) : (traffic r m d).slot i = d.slot i := rfl
@[simp] theorem traffic_work : (traffic r m d).work = d.work := rfl
@[simp] theorem traffic_store : (traffic r m d).store = d.store := rfl
@[simp] theorem traffic_power : (traffic r m d).power = d.power := rfl
@[simp] theorem traffic_tick : (traffic r m d).tick = d.tick := rfl

/-- Only the traffic itself of a device is what another traffic changes. -/
theorem traffic_traffic (r' : Reply) (m' : List Byte) : traffic r m (traffic r' m' d) = traffic r m d := rfl

theorem updSlot_traffic (i : SlotNo) (f : Slot → Slot) : (traffic r m d).updSlot i f = traffic r m (d.updSlot i f) := rfl
theorem updMeter_traffic (i : SlotNo) (f : Meter → Meter) : (traffic r m d).updMeter i f = traffic r m (d.updMeter i f) := rfl
theorem updGate_traffic (i : SlotNo) (f : GateRecord → GateRecord) :
    (traffic r m d).updGate i f = traffic r m (d.updGate i f) := rfl

theorem raise_traffic (id : EventId) (x : BitVec 4) : (traffic r m d).raise id x = traffic r m (d.raise id x) := by
  unfold Device.raise traffic Device.updPort; cases id.toEngine <;> rfl

theorem raiseSlot_traffic (k : SlotEvent) (i : SlotNo) :
    (traffic r m d).raiseSlot k i = traffic r m (d.raiseSlot k i) := raise_traffic ..

theorem raiseDone_traffic (o : Origins) (i : SlotNo) : (traffic r m d).raiseDone o i = traffic r m (d.raiseDone o i) := by
  unfold Device.raiseDone; split <;> simp only [raiseSlot_traffic]

theorem lampUpdate_traffic (i : SlotNo) : (traffic r m d).lampUpdate i = traffic r m (d.lampUpdate i) := by
  unfold Device.lampUpdate
  simp only [traffic_slot, traffic_power, apply_ite (traffic r m)]
  rfl

theorem setGate_traffic (silent : Bool) (i : SlotNo) (g : Gate) (t : Option GraceTimer) :
    (traffic r m d).setGate silent i g t = traffic r m (d.setGate silent i g t) := by
  cases silent
  · exact raiseSlot_traffic r m (d.updGate i fun x => { x with gate := g, graceTimer := t }) .gate i
  · rfl

theorem startDrain_traffic (silent : Bool) (i : SlotNo) :
    (traffic r m d).startDrain silent i = traffic r m (d.startDrain silent i) := by
  unfold Device.startDrain Device.graceExpires
  simp only [traffic_slot, traffic_tick, setGate_traffic, updGate_traffic]
  split <;> rfl

theorem gateMove_traffic (silent : Bool) (i : SlotNo) (c : Causes) :
    (traffic r m d).gateMove silent i c = traffic r m (d.gateMove silent i c) := by
  unfold Device.gateMove
  simp only [traffic_slot, setGate_traffic, startDrain_traffic]
  split
  · split <;> rfl
  · split <;> split <;> rfl

theorem recompute_traffic (silent : Bool) (i : SlotNo) :
    (traffic r m d).recompute silent i = traffic r m (d.recompute silent i) := by
  unfold Device.recompute
  simp only [traffic_slot, updGate_traffic, gateMove_traffic]
  split <;> exact lampUpdate_traffic ..

theorem reclassify_traffic (i : SlotNo) :
    (traffic r m d).reclassify i = (traffic r m (d.reclassify i).1, (d.reclassify i).2) := by
  unfold Device.reclassify
  simp only [traffic_slot, updGate_traffic, raiseSlot_traffic, recompute_traffic]
  split <;> rfl

theorem cancelEntry_traffic (k : WorkKind) (i : SlotNo) (o : Origins) :
    (traffic r m d).cancelEntry k i o = traffic r m (d.cancelEntry k i o) :=
  raiseDone_traffic r m ((d.dropEntry k i).updSlot i fun s => { s with lastSequence := some ⟨k, .cancelled, none, 0⟩ }) o i

theorem reexamineKind_traffic (k : WorkKind) (i : SlotNo) :
    (traffic r m d).reexamineKind k i = traffic r m (d.reexamineKind k i) := by
  have h : (traffic r m d).findEntry k i = d.findEntry k i := rfl
  unfold Device.reexamineKind
  rw [h]
  simp only [traffic_slot, cancelEntry_traffic]
  split
  · rfl
  · split <;> rfl

theorem askDebit_traffic (i : SlotNo) : (traffic r m d).askDebit i = traffic r m (d.askDebit i) := by
  have h : (traffic r m d).findEntry .debit i = d.findEntry .debit i := rfl
  unfold Device.askDebit Device.ask Device.request
  rw [h]
  simp only [traffic_slot, cancelEntry_traffic, raiseDone_traffic]
  split
  · rfl
  · split <;> split <;> rfl

theorem writeHistory_traffic (i : SlotNo) (carry : Bool) (merge : Option Nat) :
    (traffic r m d).writeHistory i carry merge = traffic r m (d.writeHistory i carry merge) := by
  have h : ∀ s, (traffic r m d).placeFor s = d.placeFor s := fun _ => rfl
  unfold Device.writeHistory Device.raiseReason
  simp only [traffic_slot, h, raise_traffic]
  split
  · rfl
  · split
    · rfl
    · split <;> rfl

theorem requeueCarry_traffic (i : SlotNo) : (traffic r m d).requeueCarry i = traffic r m (d.requeueCarry i) := by
  have h : (traffic r m d).carrying = d.carrying := rfl
  unfold Device.requeueCarry
  simp only [traffic_slot, h, writeHistory_traffic]
  split <;> rfl

theorem addInk_traffic (i : SlotNo) (n : Nat) (tally : Bool) :
    (traffic r m d).addInk i n tally = traffic r m (d.addInk i n tally) := by
  unfold Device.addInk Device.afterAccumulation
  simp only [traffic_slot, updMeter_traffic, updSlot_traffic, raiseSlot_traffic, reclassify_traffic, reexamineKind_traffic]
  split
  · rfl
  split
  · rfl
  · split <;> split <;> split <;> simp only [askDebit_traffic, raiseSlot_traffic, requeueCarry_traffic]

/-- A record of a tally. -/
theorem takeTally_traffic (x : TallyRecord) : (traffic r m d).takeTally x = traffic r m (d.takeTally x) := by
  unfold Device.takeTally
  split
  · rfl
  · exact addInk_traffic ..

/-- A command on the System Link whose action does not look at the Engine Link's traffic. -/
theorem judge_traffic {α : Type} (c : Command α) (f : Frame) (hf : f.link = .system)
    (h : ∀ (a : α) (d : Device), c.act .system a (traffic r m d) =
      ⟨(c.act .system a d).result, (c.act .system a d).payload, traffic r m (c.act .system a d).dev⟩) :
    c.judge f (traffic r m d) = traffic r m (c.judge f d) := by
  have hc : ∀ n, (traffic r m d).clockOut .system n = traffic r m (d.clockOut .system n) := fun _ => rfl
  have ha : ∀ (d : Device) x e p, (traffic r m d).answer .system x e p = traffic r m (d.answer .system x e p) :=
    fun _ _ _ _ => rfl
  have hcarry : (traffic r m d).resetCarry = d.resetCarry := rfl
  unfold Command.judge
  simp only [hf, hc, ha, hcarry, traffic_power, apply_ite (traffic r m)]
  cases c.read f.payload <;> simp only [h, ha]

/-- A read on the System Link during a tally. -/
theorem takeRead_traffic (x : TallyRead) : (traffic r m d).takeRead x = traffic r m (d.takeRead x) := by
  unfold Device.takeRead
  cases x.command
  · exact judge_traffic r m d readLevelsCommand x.frame rfl fun _ _ => rfl
  · exact judge_traffic r m d readSlotCommand x.frame rfl fun _ _ => rfl

/-- The records of a tally with the reads between them. -/
theorem takeTallies_traffic (reads : List TallyRead) (k : Nat) (rs : List TallyRecord) :
    (traffic r m d).takeTallies reads k rs = traffic r m (d.takeTallies reads k rs) := by
  have hr : ∀ (xs : List TallyRead) (d : Device),
      xs.foldl Device.takeRead (traffic r m d) = traffic r m (xs.foldl Device.takeRead d) := by
    intro xs
    induction xs with
    | nil => intro d; rfl
    | cons x xs ih => intro d; rw [List.foldl_cons, takeRead_traffic, ih]; rfl
  induction rs generalizing d k with
  | nil => rfl
  | cons x xs ih => simp only [Device.takeTallies, hr, takeTally_traffic, ih]

end Sys2Proof.Laws
end

