-- ==== Sys2Proof/Tests/Slice0.lean ====
section
/-! SUPPORT. Tests: ill-formed terms are refused; the bytes of frames, packets and digests are those of the specification;
each command once or twice on a small state; and a state that meets the hypotheses of each statement. -/

namespace Sys2Proof.Tests

open Sys2Proof Sys2Proof.Machine Sys2Proof.Safety

/-! ## Small states -/

/-- The device with nothing waiting. -/
def idle (d : Device) : State := ⟨d, []⟩

/-- The device right after reset. -/
def fresh : Device := State.reset.dev

/-- What a command leaves. -/
def after (c : Instr) (d : Device) : Device :=
  match exec c (idle d) with
  | .next t => t.dev
  | .fault _ => d
  | .refused _ => d

/-- A frame of the System Link and one of the Engine Link. -/
def sys (payload : List Byte) : Frame := ⟨.system, payload, 0⟩
def eng (payload : List Byte) : Frame := ⟨.engine, payload, 0⟩

/-- A JET TALLY with no read between its records, and one with a read after its first record. -/
def tally (payload : List Byte) : Instr := .jetTally ⟨eng payload, []⟩
def tallyAndRead (command : MeterRead) (payload records : List Byte) : Instr :=
  .jetTally ⟨eng records, [⟨1, command, payload, 0⟩]⟩

/-- An identity, and the slot of a proven cartridge of 1,000 µL with 100 µL used and 30 µL pending. -/
def someId : Identity := ⟨7, 1, 1, 1000, 100, Marks.empty⟩
def provenSlot : Slot :=
  { Slot.afterReset true false none with
    admission := .admitted, verdict := .proven, insertion := 1, identity := some someId, merged := true
    debouncedLow := true
    meter := { Meter.vacant with capacity := some 1000, confirmed := 100, pending := 30, metered := 30 }
    gate := { GateRecord.afterReset with causes := Causes.empty, gate := .opened }
    lamp := { LampRecord.afterReset with shown := .greenSteady, target := .greenSteady } }
def proven : Device := fresh.updSlot 0 fun _ => provenSlot

/-- Its cartridge's history entry, and the device with it stored. -/
def someEntry : HistoryEntry :=
  { serial := 7, inkCode := 1, capacity := 1000, recordedUsed := 100, unposted := 0, uncertain := none
    flags := Flags.empty, seen := 1, lastSlot := 0 }
def stored : Device :=
  { proven with store := { proven.store with entries := proven.store.entries.set 3 (some someEntry) } }

/-- A sequence of a kind on slot 0 that receives its reply. -/
def receiving (kind : WorkKind) : Sequence :=
  { job := .onSlot kind 0 1, origins := Origins.ofInternal, urgent := false, wanted := Wanted.empty, attempts := 1
    step := some .requestSent, phase := .receiving 0, expected := 100, amount := 30, reconciled := false
    marksSent := Wanted.empty, proveHold := none, prepared := none }
def inFlight (kind : WorkKind) : Device := { proven with seq := some (receiving kind) }

/-- The device with slot 0 changed. -/
def slot0 (f : Slot → Slot) : Device := proven.updSlot 0 f

/-- Slot 0 with a draining gate, settling, leaving, lit, located, and with a service line, at a tick count. -/
def draining : Device := slot0 fun s => { s with gate := { s.gate with
  causes := { Causes.empty with suspect := true }, gate := .draining, graceTimer := some ⟨0, 2000⟩ } }
def settling (now : Tick) : Device := { slot0 fun s => { s with
  admission := .settling, settleTimer := some 0, identity := none, verdict := .none } with tick := now }
def leaving (now : Tick) : Device := { slot0 fun s => { s with removalTimer := some 0 } with tick := now }
def litHeld (due : Bool) : Device := { slot0 fun s => { s with lamp :=
  ⟨.amberSteady, .greenSteady, .auto, none, true⟩ } with boundaryDue := due }
def located (now : Tick) : Device := { slot0 fun s => { s with lamp :=
  ⟨.amberFast, .amberFast, .pattern .amberFast, some 0, false⟩ } with tick := now }
def serviced (mode : ServiceMode) : Device := slot0 fun s => { s with
  valveDue := 1, config := { s.config with mode := mode, stroke := 2000, flow := 1 } }
def opened (pending : Nat) : Device := slot0 fun s => { s with
  serviceHigh := true, config := { s.config with mode := .valve, flow := 1 }, meter := { s.meter with pending := pending } }
/-- Slot 0 with a cartridge. -/
def carted : Device := slot0 fun s => { s with
  cartridge := some ⟨⟨7, 1, 1, 1000, ⟨0, 0, 0, 0⟩, 100, Marks.empty, false⟩, false, false, .none⟩ }
/-- A DEBIT listed, waiting for its reply, and between two attempts. -/
def listed : Device := { carted with
  work := [⟨.onSlot .debit 0 1, Origins.ofInternal, false, Wanted.empty⟩] }
def waiting (kind : WorkKind) (now : Tick) : Device := { proven with
  seq := some { receiving kind with phase := .waiting 0 }, tick := now }
def spaced (now : Tick) : Device := { proven with seq := some { receiving .debit with phase := .idle 0 }, tick := now }
/-- A scan of slot 0 in its answer periods. -/
def scanning : Device := { proven with
  seq := some { receiving .poll with job := .scan, phase := .scanning 0x01 } }
/-- A header write in progress, a settled winding down with nothing left to do, and STANDBY. -/
def writing (now : Tick) (repeating : Bool) : Device := { fresh with
  tick := now, store := { fresh.store with queue := [], writing := some ⟨.header ⟨1, 0⟩, 0, repeating⟩ } }
def ready : Device := { fresh with
  power := .windingDown, debitsSettled := true, store := { fresh.store with queue := [] } }
def asleep : Device := { proven with power := .standby }

/-- The cartridge of `someId` with the right key under the master key 1, 2, 3, 4, the device that holds that key with
slot 0 in PROVING, and a PROVE of it. -/
def genuine : Cartridge := Cartridge.powered
  ⟨7, 1, 1, 1000, cartridgeKey ⟨1, 2, 3, 4⟩ 7 1 1, 100, Marks.empty, false⟩
def keyed : Device := { slot0 fun s => { s with admission := .proving, verdict := .none, merged := false } with
  keyStore := .provisioned ⟨1, 2, 3, 4⟩ }
def proving (d : Device) : Sequence := { receiving .prove with proveHold := d.makeProveHold 0 1 }
/-- Slot 0 MUTE, IDENTIFYING with its IDENTIFY in flight, and with a DEBIT in flight whose earlier request is in doubt. -/
def mute : Device := slot0 fun s => { s with admission := .mute }
def identifying : Device := { slot0 fun s => { s with admission := .identifying, verdict := .none, identity := none } with
  seq := some (receiving .identify) }
def doubted : Device := { slot0 fun s => { s with meter := { s.meter with
  pending := 0, inFlight := some 30, uncertain := some ⟨100, 20⟩ } } with seq := some (receiving .debit) }
/-- A stored slot that leaves with a DEBIT in flight. -/
def departing : Device := { stored.updSlot 0 fun s => { s with removalTimer := some 0 } with
  tick := 20, seq := some (receiving .debit) }
/-- The level class of an account of 1,000 µL with AUTO thresholds and a reserve of 10 after `used` µL. -/
def leveled (used : Nat) : Level :=
  levelOf { Meter.vacant with capacity := some 1000, confirmed := used } { GateRecord.afterReset with reserve := 10 }

/-- A settled winding down that has still to write slot 0's entry, slot 0 settling at a high line, and slot 0 of a DEBIT in
doubt that is MUTE. -/
def settlingDown : Device := { stored with power := .windingDown }
def lifted : Device := slot0 fun s => { s with presenceLow := false }
def muteBusy : Device := { mute with seq := some (receiving .debit) }
/-- 32 entries of other serials with unposted ink. -/
def full : Device := { proven with store := { proven.store with
  entries := Vector.ofFn fun p : Place => some { someEntry with serial := 100 + p.val, unposted := 5 } } }
/-- `listed` with its DEBIT under way: claimed, and being sent. -/
def under (phase : Phase) : Device := { carted with
  seq := some { receiving .debit with step := none, phase := phase }, work := [] }
/-- The cartridge of slot 0 calls for attention, and SB_CLK has rested low. -/
def calling : Device := { carted.updSlot 0 fun s => { s with
  cartridge := s.cartridge.map fun c => { c with attentionPending := true, attentionCause := .sealCause } } with
  clockRested := true }
/-- The write of a key at its repeat. -/
def keyWriting (proving : Bool) : Device := { (if proving then keyed else proven) with
  tick := 5, keyStore := .storing ⟨1, 2, 3, 4⟩
  store := { stored.store with queue := [], writing := some ⟨.key ⟨1, 2, 3, 4⟩, 0, true⟩ } }
/-- `doubted` with another uncertain amount, and an attempt number. -/
def explained (amount attempts : Nat) : Device := { doubted.updSlot 0 fun s => { s with
  meter := { s.meter with uncertain := some ⟨100, amount⟩ } } with seq := some { receiving .debit with attempts := attempts } }
/-- The device of `keyed` with an entry of the serial, whose record is `u`. -/
def known (u : Option Uncertain) : Device :=
  let entry : HistoryEntry := { someEntry with unposted := 50, uncertain := u, recordedUsed := 120 }
  { keyed with store := { keyed.store with entries := keyed.store.entries.set 3 (some entry) } }

/-- The reply of a link after a command. -/
def replyOn (l : Link) (c : Instr) (d : Device) : Reply := ((after c d).port l).reply

/-! ## Ill-formed terms -/

theorem test_wf_long_payload : (Instr.nop (sys (List.replicate 97 0))).wf = false := by decide
theorem test_wf_longest_payload : (Instr.nop (sys (List.replicate 96 0))).wf = true := by decide
theorem test_wf_read_after_the_last_record :
    (tallyAndRead .levels [] (List.replicate 10 0)).wf = false ∧ (tallyAndRead .levels [] (List.replicate 20 0)).wf = true ∧
      (tallyAndRead .slot (List.replicate 97 0) (List.replicate 20 0)).wf = false := by decide
theorem test_wf_read_before_the_first_record :
    (Instr.jetTally ⟨eng (List.replicate 20 0), [⟨0, .levels, [], 0⟩]⟩).wf = false := by decide
theorem test_wf_reads_out_of_order :
    (Instr.jetTally ⟨eng (List.replicate 30 0), [⟨2, .levels, [], 0⟩, ⟨1, .levels, [], 0⟩]⟩).wf = false := by decide
theorem test_wf_framing_of_a_whole_frame : (Instr.framing .system [0x00, 0x00]).wf = false := by decide
theorem test_wf_framing_of_one_byte : (Instr.framing .system [0x20]).wf = true := by decide
theorem test_wf_unknown_with_a_command_code : (Instr.unknown 0x32 (sys [])).wf = false := by decide
theorem test_wf_unknown_long_payload : (Instr.unknown 0x05 (sys (List.replicate 97 0))).wf = false := by decide
theorem test_wf_reply_of_no_length : (Instr.replyReceived (.read [0xA0, 0, 0, 0, 0]) .arrives).wf = false := by decide
theorem test_wf_reset_cartridge_twice :
    (Instr.powerOn ⟨1, 0, true, [(0, ⟨7, 1, 1, 9, ⟨0, 0, 0, 0⟩, 0, Marks.empty, false⟩),
      (0, ⟨8, 1, 1, 9, ⟨0, 0, 0, 0⟩, 0, Marks.empty, false⟩)]⟩).wf = false := by decide
theorem test_wf_reset_cartridge_at_high_line :
    (Instr.resetPin ⟨1, 0, true, [(1, ⟨7, 1, 1, 9, ⟨0, 0, 0, 0⟩, 0, Marks.empty, false⟩)]⟩).wf = false := by decide
theorem test_refused_whole_frame :
    exec (.framing .system [0x00, 0x00]) (idle fresh) = .refused .illFormed := rfl
theorem test_refused_command_code :
    exec (.unknown 0x32 (sys [])) (idle fresh) = .refused .illFormed := rfl

/-! ## Bytes of the specification -/

/-- 12.1: SET GRACE (0x25) for slot 4 with 3,000 ms, and one byte of padding. -/
theorem test_frame_set_grace :
    decodeFrame .system [0x25, 3, 4, 0x0B, 0xB8, 0xFF] = .setGrace ⟨.system, [4, 0x0B, 0xB8], 1⟩ := by decide
/-- 10.1.1: one byte of READ SLOT is a short frame. -/
theorem test_frame_short : decodeFrame .system [0x20] = .framing .system [0x20] := by decide
/-- R157: a length byte of 97 discards the frame, one of 96 does not. -/
theorem test_frame_length_97 :
    decodeFrame .engine (0x00 :: 97 :: List.replicate 97 0) =
      .framing .engine (0x00 :: 97 :: List.replicate 97 0) := by decide
theorem test_frame_length_96 :
    decodeFrame .engine (0x00 :: 96 :: List.replicate 96 0) = .nop (eng (List.replicate 96 0)) := by decide
theorem test_frame_flush : decodeFrame .engine [0x04, 1, 0x81] = .flush (eng [0x81]) := by decide
theorem test_frame_reset_part : decodeFrame .system [0x32, 0] = .resetPart (sys []) := by decide
theorem test_frame_unknown : decodeFrame .system [0x33, 0] = .unknown 0x33 (sys []) := by decide
/-- R74: the largest nominal weight with the largest trim is held at 16,383; trims round halves up. -/
theorem test_weight_limit : effectiveWeight 16383 127 = 16383 := by decide
theorem test_weight_low : effectiveWeight 1 (-128) = 1 := by decide
/-- 12.4: the check value, and the two bytes that check to 0. -/
theorem test_crc_check_value : crc8 [0x00] = 0x42 ∧ crc8 [0x00, 0x42] = 0 := by decide
/-- 12.4: MARK with EXHAUSTED: op byte, marks, CRC-8 (computed by hand from R26). -/
theorem test_mark_packet : requestPacket .mark [0x01] = [0x54, 0x01, 0xF3] := by decide +kernel
/-- R56, R57: the digest of the one word 5 under the key 1, 2, 3, 4, computed by hand: 12 rounds. -/
theorem test_digest : digest ⟨1, 2, 3, 4⟩ [5] = ⟨0x8c08b7a6, 0x7c40f1f2⟩ := by decide
/-- R29: a DEBIT that matches is applied, one that does not is STALE, one beyond 32 bits is REFUSED. -/
theorem test_debit_effect :
    debitEffect 100 100 30 = (130, 0xA1) ∧ debitEffect 130 100 30 = (130, 0xA2) ∧
      debitEffect 100 100 4294967195 = (4294967295, 0xA1) ∧ debitEffect 100 100 4294967196 = (100, 0xA3) := by decide
/-- R22: a MARK reply without the mark sent, and a POLL reply with cause SEAL but no SEAL mark, fail. -/
theorem test_mark_content :
    checkReply .mark (replyPacket 0xA0 [0x02]) Marks.empty ⟨true, false⟩ = none ∧
      checkReply .poll (replyPacket 0xA0 [0x03, 0x01]) Marks.empty Wanted.empty = none := by decide +kernel

/-! ## Each command on a small state -/

theorem test_nop : replyOn .system (.nop (sys [])) fresh = ⟨.ok, 0x00, []⟩ := by decide
theorem test_nop_payload : replyOn .system (.nop (sys [1])) fresh = ⟨.invalid, 0x00, []⟩ := by decide
/-- A VACANT slot: verdict NONE, level NORMAL, gate SEVERED, remaining unknown. -/
theorem test_read_levels :
    (replyOn .engine (.readLevels (eng [])) fresh).payload.take 13 = [0, 0, 0, 3, 2, 0, 0, 0, 0, 0, 0, 0, 0] := by decide
/-- R151: RESET with reason POWER ON and one occurrence, and none left. -/
theorem test_read_events :
    (replyOn .system (.readEvents (sys [])) fresh).payload = [16, 1, 1, 0] ∧
      (after (.readEvents (sys [])) fresh).system.attention = false := by decide
theorem test_set_mask_hides_reset : (after (.setMask (eng [16])) fresh).engine.attention = false := by decide
theorem test_set_mask_bounds :
    (replyOn .engine (.setMask (eng [1, 16])) fresh).result = .ok ∧
      (replyOn .engine (.setMask (eng [0])) fresh).result = .invalid ∧
      (replyOn .engine (.setMask (eng [17])) fresh).result = .invalid := by decide
theorem test_flush_vacant : (replyOn .engine (.flush (eng [0x80])) fresh).payload = [0x05] := by decide
theorem test_flush_lists : (replyOn .system (.flush (sys [0x01])) proven).payload = [0x01] := by decide
/-- R77, R83: 1,000,000 normal drops of 96 q are 6 µL. -/
theorem test_jet_tally :
    ((after (tally [0, 0, 0, 0, 0x0F, 0x42, 0x40, 0, 0, 0]) proven).slot 0).meter.pending = 36 := by decide
/-- R91: on a VACANT slot the same ink is orphan ink; a record of slot 8 is skipped. -/
theorem test_jet_tally_orphan :
    ((after (tally [7, 0, 0, 0, 0x0F, 0x42, 0x40, 0, 0, 0]) fresh).slot 7).orphanCount = 6 ∧
      (replyOn .engine (tally [8, 0, 0, 0, 0, 0, 0, 0, 0, 0]) fresh).payload = [0, 1] := by decide
/-- R93: two records of 6 µL on slot 0, of 870 µL remaining; a READ LEVELS between them reports 864, and 858 remain. -/
theorem test_read_levels_in_a_tally :
    let c := tallyAndRead .levels [] [0, 0, 0, 0, 0x0F, 0x42, 0x40, 0, 0, 0, 0, 0, 0, 0, 0x0F, 0x42, 0x40, 0, 0, 0]
    ((replyOn .system c proven).payload.drop 5).take 4 = [0, 0, 0x03, 0x60] ∧
      (replyOn .engine c proven).payload = [2, 0] ∧ ((after c proven).slot 0).meter.remaining = some 858 := by decide
/-- R92, R93: a READ SLOT between two records of orphan ink reports and clears the first alone. -/
theorem test_read_slot_in_a_tally :
    let c := tallyAndRead .slot [7] [7, 0, 0, 0, 0x0F, 0x42, 0x40, 0, 0, 0, 7, 0, 0, 0, 0x0F, 0x42, 0x40, 0, 0, 0]
    ((replyOn .system c fresh).payload.drop 113).take 2 = [0, 6] ∧ ((after c fresh).slot 7).orphanCount = 6 := by
  decide +kernel
/-- R123: OPEN, SEVERED, and a slot above 7. -/
theorem test_gate_ack : (replyOn .engine (.gateAck (eng [0, 7, 8])) proven).payload = [0x04, 0x03, 0x08] := by decide
theorem test_gate_ack_shuts : ((after (.gateAck (eng [0])) draining).slot 0).gate.gate = .shut := by decide
theorem test_read_slot : (replyOn .system (.readSlot (sys [0])) proven).payload.length = 184 := by decide +kernel
/-- R144: a range that passes place 31 ends there. -/
theorem test_read_history :
    (replyOn .system (.readHistory (sys [31, 2])) fresh).payload.length = 47 ∧
      (replyOn .system (.readHistory (sys [30, 2])) fresh).payload.length = 85 ∧
      (replyOn .system (.readHistory (sys [32, 1])) fresh).result = .invalid ∧
      (replyOn .system (.readHistory (sys [0, 3])) fresh).result = .invalid := by decide
/-- R75: a weight of 0 becomes 1, one above 16,383 becomes 16,383, a trim of −32,768 becomes −128. -/
theorem test_set_metering :
    ((after (.setMetering (sys [7, 0, 0, 0x40, 0, 0, 1, 0x80, 0, 2, 1, 0, 0, 0xFF, 0xFF, 0, 0, 0, 9])) fresh).slot 7).config =
      ⟨1, 16383, 1, -128, .valve, .fallingOrLow, 0, 4095, 10⟩ := by decide +kernel
theorem test_set_metering_mode :
    (replyOn .system (.setMetering (sys [0, 0, 1, 0, 1, 0, 1, 0, 0, 3, 0, 0, 0, 0, 0, 0, 0, 0, 9])) fresh).result =
      .invalid := by decide
/-- R112: both absolute with LOW below CRITICAL; R114: LOW above R makes the class LOW. -/
theorem test_set_thresholds_crossed :
    (replyOn .system (.setThresholds (sys [0, 0, 0, 0, 0, 1, 0, 0, 0, 0, 2, 0, 0, 0, 0])) proven).result =
      .invalid := by decide
theorem test_set_thresholds_class :
    ((after (.setThresholds (sys [0, 0, 0, 0, 3, 0x66, 1, 0, 0, 0, 0, 0, 0, 0, 0])) proven).slot 0).gate.level = .low ∧
      ((after (.setThresholds (sys [0, 0, 0, 0, 3, 0x65, 1, 0, 0, 0, 0, 0, 0, 0, 0])) proven).slot 0).gate.level =
        .normal := by decide
theorem test_set_policy :
    ((after (.setPolicy (sys [0, 1, 0, 2])) proven).slot 0).gate.onDryness = .never ∧
      (replyOn .system (.setPolicy (sys [0, 2, 0, 2])) proven).result = .invalid := by decide
/-- 10.1.1: the grace of slot 4 becomes 3,000 ms; R119: 65,535 is lowered to 60,000. -/
theorem test_set_grace :
    ((after (.setGrace (sys [4, 0x0B, 0xB8])) fresh).slot 4).gate.grace = 3000 ∧
      ((after (.setGrace (sys [7, 0xFF, 0xFF])) fresh).slot 7).gate.grace = 60000 := by decide
theorem test_check_slot_vacant : (replyOn .system (.checkSlot (sys [0])) fresh).result = .noCartridge := by decide
theorem test_check_slot_proven :
    (replyOn .system (.checkSlot (sys [0])) proven).result = .accepted ∧
      (after (.checkSlot (sys [0])) proven).work.length = 2 := by decide
/-- R124, R122: CLOSE severs an OPEN gate at once, raises no GATE and counts nothing. -/
theorem test_force_gate :
    ((after (.forceGate (sys [0, 1])) proven).slot 0).gate.gate = .severed ∧
      ((after (.forceGate (sys [0, 1])) proven).slot 0).gate.forcedCloses = 0 ∧
      holds (after (.forceGate (sys [0, 1])) proven).engine (.slot .gate 0) = false := by decide
theorem test_accept_suspect_vacant : (replyOn .system (.acceptSuspect (sys [1])) proven).result = .noCartridge := by decide
theorem test_lamp_locate : ((after (.lamp (sys [0, 0x11])) proven).slot 0).lamp.shown = .amberFast := by decide
theorem test_set_wake_mask : (after (.setWakeMask (sys [0x7E])) fresh).wakeMask = 0x7E := by decide
theorem test_set_audit : (after (.setAudit (sys [241])) fresh).auditPeriod = 240 := by decide
theorem test_provision_keys :
    (after (.provisionKeys (sys [0, 0, 0, 1, 0, 0, 0, 2, 0, 0, 0, 3, 0, 0, 0, 4])) fresh).keyStore =
      .storing ⟨1, 2, 3, 4⟩ := by decide
theorem test_standby_makes_urgent :
    (after (.standby (sys [])) proven).power = .windingDown ∧
      (after (.standby (sys [])) proven).urgentWork = true := by decide
theorem test_wake_from_standby : holds (after (.wake (sys [])) asleep).engine (.device .woken) = true := by decide
theorem test_reset_part :
    (after (.resetPart (sys [])) stored).resetCarry = true ∧
      (replyOn .system (.nop (sys [])) (after (.resetPart (sys [])) stored)).result = .busy := by decide
theorem test_framing : replyOn .system (.framing .system [0x20]) fresh = ⟨.framing, 0x20, []⟩ := by decide
theorem test_unknown : replyOn .engine (.unknown 0x33 (eng [])) fresh = ⟨.unknown, 0x33, []⟩ := by decide
/-- R129: the boot number after the first stored one is 2; R4: a slot whose line is low settles. -/
theorem test_power_on :
    ((after (.powerOn ⟨0x01, 0, true, []⟩) proven).slot 0).admission = .settling ∧
      (after (.powerOn ⟨0x01, 0, true, []⟩) { fresh with store := { fresh.store with header := some ⟨1, 5⟩ } }).bootNumber =
        2 := by decide
theorem test_reset_pin : (after (.resetPin ⟨0, 0, false, []⟩) proven).supply = .low := by decide
theorem test_falling_edge :
    ((after (.fallingEdge 2 none) fresh).slot 2).admission = .settling ∧
      ((after (.fallingEdge 2 none) fresh).slot 2).insertion = 1 := by decide
theorem test_rising_edge : ((after (.risingEdge 0) proven).slot 0).removalTimer = some 0 := by decide
theorem test_settle_expiry :
    ((after (.settleExpiry 0) (settling 200)).slot 0).admission = .identifying ∧
      ((after (.settleExpiry 0) (settling 199)).slot 0).admission = .settling := by decide
theorem test_removal_expiry :
    ((after (.removalExpiry 0) (leaving 20)).slot 0).admission = .vacant ∧
      ((after (.removalExpiry 0) (leaving 19)).slot 0).admission = .admitted := by decide
theorem test_supply_low :
    (after .supplyLow stored).supply = .low ∧ holds (after .supplyLow stored).engine (.device .supply) = true := by decide
theorem test_supply_normal : (after .supplyNormal { fresh with supply := .low }).supply = .normal := by decide
/-- R80: 2,000 nL are 2 µL. -/
theorem test_stroke : ((after (.stroke 0) (serviced .stroke)).slot 0).meter.pending = 32 := by decide
theorem test_valve_millisecond : ((after (.valveMillisecond 0) (serviced .valve)).slot 0).meter.residue = 16000 := by decide
theorem test_trailing_edge :
    (after (.trailingEdge 0) (opened 30)).work.length = 1 ∧ (after (.trailingEdge 0) (opened 0)).work = [] := by decide
theorem test_service_line_level : ((after (.serviceLineLevel 3 true) fresh).slot 3).serviceHigh = true := by decide
theorem test_audit_expiry :
    (after .auditExpiry { proven with auditElapsed := 3600000 }).work.length = 2 ∧
      (after .auditExpiry { proven with auditElapsed := 3599999 }).work = [] := by decide
theorem test_lamp_frame_boundary :
    ((after .lampFrameBoundary (litHeld true)).slot 0).lamp.shown = .greenSteady := by decide
theorem test_locate_expiry : ((after (.locateExpiry 0) (located 5000)).slot 0).lamp.override = .auto := by decide
theorem test_grace_expiry :
    ((after (.graceExpiry 0) { draining with tick := 2000 }).slot 0).gate.gate = .severed ∧
      ((after (.graceExpiry 0) { draining with tick := 1999 }).slot 0).gate.gate = .draining := by decide
theorem test_attention : (after .attention { fresh with measure := .running }).work.map Entry.job = [.scan] := by decide
/-- R97: pending moves to in-flight. -/
theorem test_grant :
    ((after (.grant .arrives) listed).slot 0).meter.inFlight = some 30 ∧
      ((after (.grant .arrives) listed).slot 0).meter.pending = 0 := by decide +kernel
theorem test_ready_signal :
    (after .readySignal (waiting .debit 30)).seq.map Sequence.phase = some (.receiving 0) ∧
      (after .readySignal (waiting .debit 31)).seq.map Sequence.phase = some (.waiting 0) := by decide
/-- R99: APPLIED with E + A. -/
theorem test_reply_received :
    ((after (.replyReceived (.read (replyPacket 0xA1 [0, 0, 0, 130])) .arrives) (inFlight .debit)).slot 0).meter.confirmed =
      130 := by decide +kernel
theorem test_reply_window_expiry :
    ((after .replyWindowExpiry (waiting .debit 30)).slot 0).busErrors = 1 ∧
      ((after .replyWindowExpiry (waiting .debit 29)).slot 0).busErrors = 0 := by decide
theorem test_retry_spacing_expiry :
    (after (.retrySpacingExpiry .arrives) (spaced 2)).seq.map Sequence.attempts = some 2 ∧
      (after (.retrySpacingExpiry .arrives) (spaced 1)).seq.map Sequence.attempts = some 1 := by decide
theorem test_scan_ends :
    (after (.scanEnds (.read 0x01)) scanning).work.length = 1 ∧
      (after (.scanEnds (.read 0x00)) scanning).spurious = 1 := by decide
theorem test_store_write_start : (after .storeWriteStart fresh).store.queue = [] := by decide
/-- R131: 5 ms, not 4. -/
theorem test_store_write_complete :
    (after (.storeWriteComplete true) (writing 5 false)).store.header = some ⟨1, 0⟩ ∧
      (after (.storeWriteComplete true) (writing 4 false)).store.header = none := by decide
theorem test_reset_part_acts :
    (after (.resetPartActs true) { stored with resetCarry := true, store := { stored.store with queue := [] } }).bootNumber =
      1 := by decide
theorem test_enter_standby : (after .enterStandby ready).power = .standby := by decide
theorem test_tick_count_advance :
    (after .tickCountAdvance { fresh with tick := 0xFFFFFFFF, framePhase := 999 }).tick = 0 ∧
      (after .tickCountAdvance { fresh with tick := 0xFFFFFFFF, framePhase := 999 }).framePhase = 0 := by decide
theorem test_seal_sense_broken :
    ((after (.sealSenseBroken 0) carted).slot 0).cartridge.map (fun c => c.memory.marks.sealMark) = some true := by decide
theorem test_sb_dat_level_change :
    (after (.sbDatLevelChange (.read true)) fresh).measure = .running ∧
      (after (.sbDatLevelChange .asPulled) calling).measure = .running ∧
      (after (.sbDatLevelChange .asPulled) carted).measure = .stopped := by decide
/-- R19, R24: a claim that is left under way is sent by the next tick, and an abort leaves its step absent. -/
theorem test_request_under_way :
    (after .tickCountAdvance (under (.claimed 0xFF))).seq.map Sequence.phase = some (.waiting 1) ∧
      (after .tickCountAdvance (under (.selecting 0xFF 0x01))).seq.map Sequence.phase = some (.waiting 1) ∧
      (after (.grant (.selecting 0xFF)) listed).seq.map (fun q => (q.step, q.phase)) =
        some (some .selected, .selecting 0xFF 0x01) ∧
      ((after (.checkSlot (sys [0])) { under (.claimed 0xFF) with
        slots := muteBusy.slots }).slot 0).lastSequence = some ⟨.debit, .aborted, none, 1⟩ := by decide +kernel
/-- R18: the table of phases: SB_CLK high, the select lines, and whether SB_DAT is the device's to drive. -/
theorem test_phases_of_an_exchange :
    ([.idle 0, .claimed 0xFF, .selecting 0xFF 0x01, .sending 0xFF 0x01, .waiting 0, .receiving 0].map fun p =>
      ((under p).clockHigh, (under p).selects 0, (under p).drivesData)) =
      [(false, 0, false), (true, 0, false), (true, 0x01, false), (true, 0x01, true), (true, 0x01, false),
        (true, 0x01, false)] := by decide +kernel
/-- R27: a cartridge that takes the place of another within an exchange has no reply to send. -/
theorem test_newcomer_sends_nothing :
    (after (.fallingEdge 0 (some genuine.memory)) { lifted with
      seq := some { receiving .poll with prepared := some [0] } }).seq.map Sequence.prepared = some none := by decide
/-- R128, R131: a commit exchanges the two copies of its item. -/
theorem test_copies_exchanged :
    (after (.storeWriteComplete true) { writing 5 false with
      store := { (writing 5 false).store with header := some ⟨7, 7⟩ } }).store.spareHeader = .holds ⟨7, 7⟩ := by decide

/-! ## Hypotheses met

For each statement with hypotheses, a state and operands that meet them together; where a statement has several clauses
over one input, at the boundaries of each. -/

theorem gatesOk_proven : GatesOk proven := by
  intro i; fin_cases i <;> exact ⟨by decide, by decide, by decide⟩
theorem countsOk_proven : AllCountsOk proven := by
  intro i; fin_cases i <;> exact ⟨by decide, by decide, by decide, by decide, by decide, by decide, by decide, by decide⟩
theorem listsOk_proven : ListsOk proven := ⟨⟨by decide, by decide⟩, ⟨by decide, by decide⟩, by decide⟩
theorem workOk_listed : WorkOk listed :=
  ⟨by decide, by intro e h; simp [listed] at h; subst h; exact ⟨by decide, by decide⟩, by decide⟩
theorem queueOk_fresh : QueueOk fresh := by show List.Nodup _; decide

theorem causesOk_proven : CausesOk proven := by intro i; revert i; decide
theorem identitiesOk_proven : IdentitiesOk proven := by intro i; revert i; decide
theorem identitiesOk_identifying : IdentitiesOk identifying := by intro i; revert i; decide
theorem levelsOk_proven : LevelsOk proven := by intro i; revert i; decide
theorem lampsOk_proven : LampsOk proven := by
  show ∀ i, (proven.slot i).lamp.target = _; decide
/-- The write-back items stand as R109 has them with a DEBIT in flight whose earlier request is in doubt. -/
theorem writeBackOk_doubted : WriteBackOk doubted where
  debit := by
    intro q h i n hj
    cases h
    obtain ⟨rfl, rfl⟩ : (0 : SlotNo) = i ∧ (1 : BitVec 8) = n := by simpa [receiving] using hj
    decide
  inFlight := by
    intro i a h
    fin_cases i
    · cases h; exact ⟨by decide, by decide, by decide, _, rfl, _, rfl⟩
    all_goals cases h
  record := by
    intro i u h
    fin_cases i
    · cases h; decide
    all_goals cases h
  prove := by intro q h i n hj; cases h; cases hj
  account := by decide
  vacant := by decide
  unseated := by decide
  unmerged := by decide
  asleep := by decide
theorem writeBackOk_proven : WriteBackOk proven where
  debit := by rintro q ⟨⟩
  inFlight := by intro i a h; fin_cases i <;> cases h
  record := by intro i u h; fin_cases i <;> cases h
  prove := by rintro q ⟨⟩
  account := by decide
  vacant := by decide
  unseated := by decide
  unmerged := by decide
  asleep := by decide
theorem balanceOk_doubted : BalanceOk doubted := by unfold BalanceOk; decide
theorem witness_EveryStepKeepsTheGates :
    ∃ t, GatesOk proven ∧ CausesOk proven ∧ LampsOk proven ∧ IdentitiesOk proven ∧ WriteBackOk proven ∧ LevelsOk proven ∧
      step ⟨proven, [.tickCountAdvance]⟩ = .next t :=
  ⟨_, gatesOk_proven, causesOk_proven, lampsOk_proven, identitiesOk_proven, writeBackOk_proven, levelsOk_proven, rfl⟩
theorem witness_EveryStepKeepsCountsListsAndQueue :
    ∃ t, step ⟨proven, [.tickCountAdvance]⟩ = .next t ∧ AllCountsOk proven ∧ ListsOk proven ∧ QueueOk proven :=
  ⟨_, rfl, countsOk_proven, listsOk_proven, queueOk_fresh⟩
theorem witness_EveryStepKeepsTheWorkList :
    ∃ t, WorkOk listed ∧ step ⟨listed, [.grant .arrives]⟩ = .next t := ⟨_, workOk_listed, rfl⟩
theorem placed_stored : Placed stored 7 3 false :=
  .inl ⟨⟨someEntry, by decide, rfl⟩, fun q h e he => by
    have blank : ∀ q : Place, q < 3 → stored.store.current q = none := by decide +kernel
    exact absurd he (by simp [blank q h]), rfl⟩
theorem only_stored : ∀ j : SlotNo, j ≠ 0 → (stored.slot j).holdsSerial 7 = false := by decide
theorem witness_WhatEndsACommand :
    proven.power ≠ .windingDown ∧ ready.power = .windingDown ∧ ready.conclude.debitsSettled = true ∧
      settlingDown.power = .windingDown ∧ settlingDown.debitsSettled = false ∧
      settlingDown.conclude.debitsSettled = true ∧ (settlingDown.slot 0).admission ≠ .vacant ∧
      (settlingDown.slot 0).merged = true ∧ (settlingDown.slot 0).writtenIdentity = some someId ∧
      (∀ j : SlotNo, j ≠ 0 → (settlingDown.slot j).holdsSerial someId.serial = false) ∧
      (settlingDown.store.lookup someId.serial).isSome = true ∧
      ({ listed with power := .windingDown } : Device).conclude.debitsSettled = true ∧
      ∃ t, step ⟨ready, [.tickCountAdvance]⟩ = .next t ∧ t.dev.power = .windingDown :=
  ⟨by decide, by decide, by decide, by decide, by decide, by decide +kernel, by decide, by decide, by decide, only_stored,
    by decide +kernel, by decide +kernel, _, rfl, by decide⟩
theorem witness_CartridgesOnlyGrow :
    ∃ t x y, exec (.sealSenseBroken 0) (idle carted) = .next t ∧ (carted.slot 0).cartridge = some x ∧
      (t.dev.slot 0).cartridge = some y ∧ (∀ m, Instr.sealSenseBroken 0 ≠ .fallingEdge 0 (some m)) ∧
      (∀ l m, Instr.sealSenseBroken 0 = .powerOn l ∨ Instr.sealSenseBroken 0 = .resetPin l → ((0 : SlotNo), m) ∉ l.powered) ∧
      ∀ m, ((0 : SlotNo), m) ∉ (⟨0x01, 0, true, [(1, genuine.memory)]⟩ : ResetLines).powered :=
  ⟨_, _, _, rfl, rfl, rfl, nofun, nofun, nofun⟩
theorem witness_TheMasterKeyIsWriteOnce :
    ∃ t, exec .tickCountAdvance (idle keyed) = .next t ∧ keyed.keyStore = .provisioned ⟨1, 2, 3, 4⟩ := ⟨_, rfl, rfl⟩
theorem witness_FramesReadBack :
    (Instr.flush ⟨.engine, [0x81], 3⟩).wf = true ∧
      encodeFrame (.flush ⟨.engine, [0x81], 3⟩) = some (.engine, [0x04, 1, 0x81, 0, 0, 0]) ∧
      (∀ received, Instr.flush ⟨.engine, [0x81], 3⟩ ≠ .framing .engine received) ∧
      ([0x04, 1, 0x81, 0, 0, 0] : List Byte).take 3 = ([0x04, 1, 0x81, 7, 8, 9] : List Byte).take 3 :=
  ⟨by decide, by decide, nofun, by decide⟩
/-- A bad CRC-8, an unknown op, a length that is not its op's, and amounts at their limits. -/
theorem witness_PacketsCheckToZero :
    crc8 [0x51, 0x00] ≠ 0 ∧ (withCrc [0x56]).length = 2 ∧ (withCrc [0x51, 0x00]).length = 3 ∧
      genuine.memory.used.toNat + 4294967195 = 4294967295 := by decide +kernel
/-- The amounts 1 and the largest that the used count has room for. -/
theorem witness_TheSameDebitAddsOnce : genuine.memory.used.toNat = 100 ∧
    ∀ amount ∈ [1, 4294967195], (100 : Nat) ≤ max32 ∧ 0 < amount ∧ amount ≤ max32 ∧ 100 + amount ≤ max32 := by decide
theorem witness_AGenuineCartridgeProves :
    keyed.keyStore = .provisioned ⟨1, 2, 3, 4⟩ ∧ (keyed.slot 0).identity = some someId ∧
      (keyed.slot 0).admission = .proving ∧ genuine.memory.key = cartridgeKey ⟨1, 2, 3, 4⟩ 7 1 1 ∧
      genuine.memory.inkCode = someId.inkCode ∧ genuine.memory.used.toNat = someId.used ∧
      genuine.memory.capacity.toNat = someId.capacity ∧
      genuine.memory.marks.printerValue = someId.marks.printerValue ∧
      ∃ h q, keyed.makeProveHold 0 1 = some h ∧ Sequence.proveHold q = some h :=
  ⟨rfl, rfl, rfl, rfl, by decide, by decide, by decide, by decide, _,
    { receiving .prove with proveHold := keyed.makeProveHold 0 1 }, rfl, rfl⟩
/-- LOW 150, CRITICAL 50 (AUTO of 1,000 µL) and a reserve of 10: the classes at the boundaries, and LOW below CRITICAL. -/
theorem witness_LevelClassFollowsTheTable :
    leveled 849 = .normal ∧ leveled 850 = .low ∧ leveled 949 = .low ∧ leveled 950 = .critical ∧ leveled 999 = .critical ∧
      leveled 1000 = .dry ∧ leveled 1009 = .dry ∧ leveled 1010 = .spent ∧
      levelOf Meter.vacant GateRecord.afterReset = .normal ∧
      GateRecord.afterReset.effectiveLow 1000 = 150 ∧ GateRecord.afterReset.effectiveCritical 1000 = 50 ∧
      ({ GateRecord.afterReset with critical := .absolute 200 } : GateRecord).effectiveLow 1000 = 200 := by decide
theorem workOk_doubted : WorkOk doubted := ⟨by decide, nofun, nofun⟩
theorem countsOk_doubted : AllCountsOk doubted := by
  intro i; fin_cases i <;> exact ⟨by decide, by decide, by decide, by decide, by decide, by decide, by decide, by decide⟩
theorem witness_TheAccountBalances :
    let m : Meter := { Meter.vacant with metered := 30, inFlight := some 30, uncertain := some ⟨100, 30⟩ }
    let n : Meter := { Meter.vacant with metered := 30, pending := 30 }
    m.saturated = false ∧ m.carriedIn + m.metered = m.pending + m.inFlight.getD 0 + m.posted ∧
      m.inFlight = some 30 ∧ m.posted + 30 ≤ max32 ∧ (∀ u, m.uncertain = some u → u.amount ≤ 30) ∧
      (judgeDebit m 100 30 false .stale 130).meter.saturated = false ∧
      (n.accumulate 16000000).saturated = false ∧ n.inFlight = none ∧
      n.carriedIn + n.metered = n.pending + n.inFlight.getD 0 + n.posted := by
  refine ⟨by decide, by decide, by decide, by decide, ?_, by decide, by decide, by decide, by decide⟩
  rintro u ⟨⟩; decide
theorem witness_TheAccountBalances_step :
    ∃ t, step ⟨doubted, [.tickCountAdvance]⟩ = .next t ∧ WriteBackOk doubted ∧ WorkOk doubted ∧ AllCountsOk doubted ∧
      BalanceOk doubted ∧ (doubted.slot 0).meter.remaining = some 870 ∧ (t.dev.slot 0).meter.remaining = some 870 ∧
      (t.dev.slot 0).insertion = (doubted.slot 0).insertion ∧ (t.dev.slot 0).meter.saturated = false :=
  ⟨_, rfl, writeBackOk_doubted, workOk_doubted, countsOk_doubted, balanceOk_doubted, by decide, by decide, by decide,
    by decide⟩
theorem witness_TheFirstFailedCheckAnswers :
    firstFailure { fresh with resetCarry := true } (.unknown 0x33 (sys [])) .system [0x33, 0] = some .busy ∧
      firstFailure fresh (.unknown 0x33 (sys [])) .system [0x33, 0] = some .unknown ∧
      firstFailure fresh (.jetTally ⟨sys [], []⟩) .system [0x10, 0] = some .notPermitted ∧
      firstFailure asleep (.nop (sys [1])) .system [0x00, 1, 1] = some .asleep ∧
      firstFailure asleep (.jetTally ⟨eng [], []⟩) .engine [0x10, 0] = some .invalid ∧
      firstFailure fresh (.readSlot (sys [8])) .system [0x20, 1, 8] = some .invalid ∧
      firstFailure fresh (.readSlot (sys [7])) .system [0x20, 1, 7] = none ∧
      firstFailure fresh (.setMask (eng (List.replicate 17 1))) .engine (0x03 :: 17 :: List.replicate 17 1) =
        some .invalid ∧
      encodeFrame (.readSlot (sys [8])) = some (.system, [0x20, 1, 8]) ∧ (Instr.readSlot (sys [8])).wf = true := by
  decide
theorem witness_FramesThatAreNoCommand :
    discardedFrame [] = true ∧ discardedFrame [0x20] = true ∧ discardedFrame [0x20, 97] = true ∧
      discardedFrame [0x20, 1] = true ∧ discardedFrame [0x20, 0] = false ∧ (0x33 : Byte) ∉ commandCodes := by decide
theorem takes_fresh : Takes fresh := ⟨by decide, by decide⟩
theorem takes_proven : Takes proven := ⟨by decide, by decide⟩
theorem witness_NopResult : (sys []).payload.length ≤ 96 ∧ (sys [1]).payload.length ≤ 96 ∧ Takes fresh :=
  ⟨by decide, by decide, takes_fresh⟩
theorem witness_ReadLevelsResult : (eng []).payload = [] ∧ Takes fresh := ⟨rfl, takes_fresh⟩
theorem witness_ReadEventsResult :
    (eng []).payload = [] ∧ Takes fresh ∧
      [⟨.device .reset, 1, 1⟩] = (fresh.port .engine).events.filter (fun e => !maskedBy (fresh.port .engine).mask e) :=
  ⟨rfl, takes_fresh, by decide⟩
theorem witness_SetMaskResult :
    (∀ b ∈ (eng (1 :: 16 :: List.replicate 14 1)).payload, 1 ≤ b.toNat ∧ b.toNat ≤ 16) ∧
      (eng (1 :: 16 :: List.replicate 14 1)).payload.length = 16 ∧
      (eng (List.replicate 17 1)).payload.length = 17 ∧ Takes fresh := ⟨by decide, by decide, by decide, takes_fresh⟩
theorem witness_ReadSlotResult : (sys [7]).link = .system ∧ (sys [7]).payload = [slotByte 7] ∧ Takes fresh :=
  ⟨rfl, rfl, takes_fresh⟩
/-- The first place at its bounds, and a place that is queued, one that is being written, and one that is stored alone. -/
theorem witness_ReadHistoryResult :
    (sys [31, 1]).link = .system ∧ (sys [31, 1]).payload = [31, 1] ∧ (sys [32, 1]).payload = [32, 1] ∧ Takes fresh :=
  ⟨rfl, rfl, rfl, takes_fresh⟩
theorem witness_ReadHistoryResult_current :
    let w : QueuedWrite := ⟨.entry 5 someEntry, false⟩
    let d : Device := { stored with store := { stored.store with
      queue := [w], writing := some ⟨.entry 6 someEntry, 0, false⟩ } }
    QueueOk d ∧ w ∈ d.store.queue ∧ (∀ x ∈ d.store.queue, x.write.item ≠ .entry 6) ∧
      (∀ x ∈ d.store.queue, x.write.item ≠ .entry 3) ∧ (∀ x, d.store.writing = some x → x.write.item ≠ .entry 3) := by
  refine ⟨by show List.Nodup _; decide, by decide, by decide, by decide, ?_⟩
  rintro x ⟨⟩; decide
theorem witness_SetMeteringResult :
    (sys [7, 0, 0, 0, 0, 0, 0, 0, 0, 2, 1, 0, 0, 0, 0, 0, 0, 0, 0]).link = .system ∧ Takes fresh ∧
      ((7 : Byte).toNat < 8 ∧ (2 : Byte).toNat < 3 ∧ (1 : Byte).toNat < 2) ∧
      ¬((8 : Byte).toNat < 8) ∧ ¬((3 : Byte).toNat < 3) ∧ ¬((2 : Byte).toNat < 2) :=
  ⟨rfl, takes_fresh, by decide, by decide, by decide, by decide⟩
/-- Settings with both values AUTO, and a CRITICAL of 870 µL that makes an account of 870 µL CRITICAL. -/
theorem witness_SetThresholdsResult :
    (sys [slotByte 0, 1, 0, 0, 0, 0, 1, 0, 0, 0, 0, 0, 0, 0, 0]).link = .system ∧ Takes proven ∧
      Worsens (proven.slot 0).gate.level
        (levelOf (proven.slot 0).meter { (proven.slot 0).gate with critical := .absolute 870 }) ∧
      Debitable (proven.slot 0) ∧ (proven.slot 0).admission ≠ .vacant :=
  ⟨rfl, takes_proven, ⟨.inl (by decide), by decide⟩, ⟨by decide, by decide, .inl (by decide)⟩, by decide⟩
theorem witness_SetPolicyResult :
    (sys [7, 1, 1, 2]).link = .system ∧ (sys [7, 1, 1, 2]).payload = [7, 1, 1, 2] ∧ Takes fresh :=
  ⟨rfl, rfl, takes_fresh⟩
theorem witness_SetGraceAndWakeMaskResult :
    (sys [7, 0xEA, 0x60]).payload = [slotByte 7, 0xEA, 0x60] ∧ (sys [0xFF]).payload = [0xFF] ∧
      (sys [0xFF]).link = .system ∧ Takes fresh := ⟨rfl, rfl, rfl, takes_fresh⟩
theorem witness_SetAuditResult :
    (sys [240]).link = .system ∧ fresh.resetCarry = false ∧ asleep.resetCarry = false ∧ asleep.power = .standby ∧
      ready.power = .windingDown ∧ (sys [240]).payload = [240] := by decide
theorem witness_ProvisionKeysResult :
    (sys (List.replicate 16 0xFF)).link = .system ∧ (sys (List.replicate 16 0xFF)).payload.length = 16 ∧
      fresh.resetCarry = false ∧ fresh.keyStore = .blank ∧ keyed.keyStore ≠ .blank ∧
      (∀ w ∈ fresh.store.queue, w.write.item ≠ .key) := by decide
theorem witness_FlushResult :
    Takes proven ∧ (eng [BitVec.ofNat 8 (2 ^ (0 : SlotNo).val)]).payload = [BitVec.ofNat 8 (2 ^ (0 : SlotNo).val)] ∧
      (proven.slot 1).admission = .vacant ∧ (proven.slot 0).admission ≠ .vacant ∧ proven.findEntry .debit 0 = none ∧
      (proven.slot 0).meter.pending = 30 ∧ (listed.findEntry .debit 0).isSome = true ∧
      ((opened 0).slot 0).meter.pending = 0 ∧ ((opened 0).slot 0).meter.uncertain = none :=
  ⟨takes_proven, rfl, by decide, by decide, by decide, by decide, by decide, by decide, by decide⟩
theorem witness_JetTallyResult :
    Takes proven ∧ proven.power = .run ∧
      (eng (slotByte 0 :: (beBytes 3 16777215 ++ beBytes 3 0 ++ beBytes 3 1))).payload =
        slotByte 0 :: (beBytes 3 16777215 ++ beBytes 3 0 ++ beBytes 3 1) ∧
      (proven.slot 0).gate.gate = .opened ∧ (proven.slot 0).admission ≠ .vacant ∧ (proven.slot 1).admission = .vacant ∧
      readTally [8, 0, 0, 0, 0, 0, 0, 0, 0, 0] = some [⟨8, 0, 0, 0⟩] ∧ asleep.resetCarry = false ∧
      ((slot0 fun s => { s with gate := { s.gate with gate := .shut } }).slot 0).gate.gate = .shut :=
  ⟨takes_proven, by decide, rfl, by decide, by decide, by decide, by decide, by decide, by decide⟩
/-- Three records with a READ LEVELS after the first, a READ SLOT after the second and nothing else, split at the second;
and a tally that is refused. -/
theorem witness_JetTallyResult_reads :
    let records := List.replicate 30 (0 : Byte)
    let a : TallyRead := ⟨1, .levels, [], 0⟩
    let b : TallyRead := ⟨2, .slot, [0], 0⟩
    (Instr.jetTally ⟨eng records, [a] ++ (some b).toList ++ []⟩).wf = true ∧
      records = List.replicate 20 0 ++ List.replicate 10 0 ∧
      readTally (List.replicate 20 0) = some [⟨0, 0, 0, 0⟩, ⟨0, 0, 0, 0⟩] ∧
      readTally (List.replicate 10 0) = some [⟨0, 0, 0, 0⟩] ∧ a.after < 2 ∧ b.after = 2 ∧
      proven.resetCarry = false ∧ (eng records).link = .engine ∧ readTally [] = none := by decide
/-- An addition that reaches the debit step, one that worsens the class, and one at LOW supply. -/
theorem witness_Accumulates :
    let d : Device := (serviced .stroke).updSlot 0 fun s => { s with config := { s.config with debitStep := 32 } }
    let d' : Device := after (.stroke 0) d
    0 < ((d.slot 0).meter.residue + 2000 * 16000) / 16000000 ∧
      (d.slot 0).config.debitStep ≤ (d'.slot 0).meter.pending ∧ Debitable (d'.slot 0) ∧
      Worsens (leveled 949) (leveled 950) ∧ ({ stored with supply := .low } : Device).supply = .low ∧
      (stored.slot 0).merged = true :=
  ⟨by decide, by decide, ⟨by decide, by decide, .inl (by decide)⟩, ⟨.inl (by decide), by decide⟩, by decide, by decide⟩
theorem witness_GateAckResult :
    (eng [0]).link = .engine ∧ Takes draining ∧ 1 ≤ (eng [0]).payload.length ∧
      (eng (List.replicate 8 0)).payload.length ≤ 8 ∧ slotByte 0 ∈ (eng [0]).payload ∧
      (draining.slot 0).gate.gate = .draining := ⟨rfl, ⟨by decide, by decide⟩, by decide, by decide, by decide, by decide⟩
/-- A slot that can make no progress, without and with a sequence in flight on it, and one with an IDENTIFY in flight. -/
theorem witness_CheckSlotResult :
    (sys [slotByte 0]).link = .system ∧ Takes proven ∧ Takes mute ∧ (mute.slot 0).admission = .mute ∧
      (∀ q, mute.seq = some q → ∀ kind n, q.job ≠ .onSlot kind 0 n) ∧ Takes muteBusy ∧
      (muteBusy.slot 0).admission = .mute ∧ muteBusy.busIdle = false ∧
      muteBusy.seq.map Sequence.job = some (.onSlot .debit 0 1) ∧ Takes identifying ∧
      (identifying.slot 0).admission = .identifying ∧ identifying.findEntry .identify 0 = none ∧
      identifying.seq.map Sequence.job = some (.onSlot .identify 0 1) :=
  ⟨rfl, takes_proven, ⟨by decide, by decide⟩, by decide, by rintro q ⟨⟩, ⟨by decide, by decide⟩, by decide, by decide,
    by decide, ⟨by decide, by decide⟩, by decide, by decide, by decide⟩
theorem gateOk_proven0 : GateOk (proven.slot 0).gate := gatesOk_proven 0
theorem gateOk_draining0 : GateOk (draining.slot 0).gate := ⟨by decide, by decide, by decide⟩
theorem witness_ForceGateResult :
    (sys [slotByte 0, 1]).link = .system ∧ Takes proven ∧ GateOk (proven.slot 0).gate ∧
      (proven.slot 0).gate.causes = causesOf (proven.slot 0) := ⟨rfl, takes_proven, gateOk_proven0, by decide⟩
theorem witness_AcceptSuspectResult :
    (sys [slotByte 0]).link = .system ∧ Takes proven ∧ (proven.slot 0).admission ≠ .vacant ∧
      (proven.slot 1).admission = .vacant := ⟨rfl, takes_proven, by decide, by decide⟩
theorem witness_LampResult :
    (sys [slotByte 0, 8]).link = .system ∧ Takes proven ∧ (8 : Byte) = Pattern.alternate.code ∧
      8 < (9 : Byte).toNat ∧ (9 : Byte) ≠ 0x10 ∧ (9 : Byte) ≠ 0x11 :=
  ⟨rfl, takes_proven, by decide, by decide, by decide, by decide⟩
theorem witness_StandbyResult :
    (sys []).link = .system ∧ Takes proven ∧ proven.power = .run ∧ Takes ready ∧ ready.power = .windingDown ∧
      (proven.slot 0).admission = .admitted ∧ (proven.slot 0).verdict = .proven ∧ (proven.slot 0).flags = Flags.empty ∧
      0 < (proven.slot 0).meter.pending ∧ (proven.slot 0).removalTimer = none ∧
      ((leaving 0).slot 0).removalTimer ≠ none :=
  ⟨rfl, takes_proven, by decide, ⟨by decide, by decide⟩, by decide, by decide, by decide, by decide, by decide, by decide,
    by decide⟩
/-- The rows of R16: a VACANT slot whose line is high and one whose line is low, a settling slot, and a seated one with its
line high and with it low. -/
theorem witness_WakeResult :
    (sys []).link = .system ∧ asleep.resetCarry = false ∧ asleep.power = .standby ∧ ready.power = .windingDown ∧
      proven.power = .run ∧ ({ asleep with wakeMask := 0xFE } : Device).wakeMask.getLsbD 0 = false ∧
      asleep.wakeMask.getLsbD 0 = true ∧ (asleep.slot 0).presenceLow = true ∧ (asleep.slot 0).admission.seated = true ∧
      (lifted.slot 0).presenceLow = false ∧ (lifted.slot 0).admission.seated = true ∧
      (asleep.slot 1).presenceLow = false ∧ (asleep.slot 1).admission = .vacant ∧
      ((proven.updSlot 1 fun s => { s with presenceLow := true }).slot 1).presenceLow = true ∧
      ((proven.updSlot 1 fun s => { s with presenceLow := true }).slot 1).admission = .vacant ∧
      ((settling 0).slot 0).presenceLow = true ∧ ((settling 0).slot 0).admission = .settling := by decide
theorem witness_ResetPartResult :
    (sys []).link = .system ∧ Takes stored ∧ (stored.slot 0).admission ≠ .vacant ∧ (stored.slot 0).merged = true ∧
      (stored.slot 0).writtenIdentity = some someId ∧ (stored.store.lookup someId.serial).isSome = true ∧
      (∀ j : SlotNo, j ≠ 0 → (stored.slot j).holdsSerial someId.serial = false) :=
  ⟨rfl, ⟨by decide, by decide⟩, by decide, by decide, by decide, by decide +kernel, by decide +kernel⟩
theorem witness_ResetResult :
    (⟨0x01, 0x80, false, [(0, genuine.memory)]⟩ : ResetLines).wf = true ∧
      ((0 : SlotNo), genuine.memory) ∈ (⟨0x01, 0x80, false, [(0, genuine.memory)]⟩ : ResetLines).powered ∧
      (∀ m, ((1 : SlotNo), m) ∉ (⟨0x01, 0x80, false, [(0, genuine.memory)]⟩ : ResetLines).powered) ∧
      ({ ready with resetCarry := true } : Device).resetReady = true :=
  ⟨by rfl, .head _, fun m h => by simp at h, by decide⟩
theorem witness_EnterStandbyResult : ready.ready = true ∧ fresh.ready = false := by decide
/-- The edges on a VACANT, a settling and a seated slot and on a frozen one, and a newcomer met by a request under way and
by a reply prepared. -/
theorem witness_PresenceEdgeResult :
    (fresh.slot 0).presenceLow = false ∧ fresh.frozen 0 = false ∧ (fresh.slot 0).admission = .vacant ∧
      fresh.power ≠ .standby ∧ (proven.slot 0).presenceLow = true ∧
      (lifted.slot 0).presenceLow = false ∧ lifted.frozen 0 = false ∧ (lifted.slot 0).admission.seated = true ∧
      ((settling 0).slot 0).admission = .settling ∧ (settling 0).frozen 0 = false ∧
      ({ asleep with wakeMask := 0xFE } : Device).frozen 0 = true ∧
      ({ lifted with seq := (under (.sending 0xFF 0x01)).seq } : Device).seq.map Sequence.phase =
        some (.sending 0xFF 0x01) := by decide
theorem witness_SettleExpiryResult :
    ((settling 199).slot 0).admission = .settling ∧ ((settling 200).slot 0).settleTimer = some 0 ∧
      (settling 200).findEntry .identify 0 = none ∧ elapsed 199 0 < 200 ∧ ¬elapsed 200 0 < 200 := by decide
theorem witness_RemovalExpiryResult :
    ((leaving 20).slot 0).admission ≠ .vacant ∧ ((leaving 20).slot 0).removalTimer = some 0 ∧ elapsed 19 0 < 20 ∧
      ¬elapsed 20 0 < 20 := by decide
/-- A place that holds the serial, the lowest blank place, and the place of an entry that is evicted with LOSS. -/
theorem witness_RemovalCarriesTheAccount :
    (departing.slot 0).admission.seated = true ∧ departing.power = .run ∧ (departing.slot 0).removalTimer = some 0 ∧
      20 ≤ elapsed departing.tick 0 ∧ (departing.slot 0).merged = true ∧
      departing.seq.map Sequence.job = some (.onSlot .debit 0 (departing.slot 0).insertion) ∧
      (∀ q n, (leaving 20).seq = some q → q.job ≠ .onSlot .debit 0 n) ∧
      (departing.slot 0).writtenIdentity = some someId ∧
      ((departing.updMeter 0 fun m => { m with uncertain := some ⟨100, 30⟩ }).slot 0).writtenIdentity = some someId ∧
      (∀ q n, proven.seq = some q → q.job ≠ .onSlot .debit 0 n) ∧
      ((departing.updSlot 0 fun s => { s with merged := false }).slot 0).merged = false :=
  ⟨by decide, by decide, by decide, by decide, by decide, by decide, by rintro q n ⟨⟩, by decide, by decide,
    by rintro q n ⟨⟩, by decide⟩
theorem witness_Placed : Placed stored 7 3 false ∧ Placed proven 7 0 false ∧ Placed full 7 0 true := by
  refine ⟨placed_stored, .inr ⟨?_, .inl ⟨by decide +kernel, fun q h => absurd h (Nat.not_lt_zero _), rfl⟩⟩,
    .inr ⟨?_, .inr ⟨by decide +kernel, { someEntry with serial := 100, unposted := 5 }, by decide +kernel, ?_, by decide, ?_⟩⟩⟩
  · have blank : ∀ q : Place, proven.store.current q = none := by decide +kernel
    intro q e h; rw [blank q] at h; cases h
  · have other : ∀ q : Place, (full.store.current q).map HistoryEntry.serial ≠ some 7 := by decide +kernel
    intro q e h he; exact other q (by rw [h, ← he]; rfl)
  · unfold Protected; decide +kernel
  · have same : ∀ q : Place, (full.store.current q).map (fun x => (evictionTier x, x.seen)) = some (3, 1) := by
      decide +kernel
    intro q x h _ hq
    have hx := same q
    rw [h] at hx
    simp only [Option.map_some, Option.some.injEq, Prod.mk.injEq] at hx
    exact .inr ⟨hx.1.symm, .inr ⟨hx.2.symm, Fin.pos_of_ne_zero hq⟩⟩
theorem witness_GraceExpiryResult :
    GateOk (draining.slot 0).gate ∧ (draining.slot 0).gate.graceTimer = some ⟨0, 2000⟩ ∧ elapsed 1999 0 < 2000 ∧
      ¬elapsed 2000 0 < 2000 ∧ (proven.slot 0).gate.gate ≠ .draining :=
  ⟨gateOk_draining0, by decide, by decide, by decide, by decide⟩
theorem witness_LampTimers :
    (litHeld false).boundaryDue = false ∧ (litHeld true).boundaryDue = true ∧
      ((located 5000).slot 0).lamp.locate = some 0 ∧ elapsed 4999 0 < 5000 ∧ ¬elapsed 5000 0 < 5000 := by decide
theorem witness_ServiceInkResult :
    ((serviced .stroke).slot 0).config.mode = .stroke ∧ ((serviced .stroke).slot 0).lineActive = false ∧
      0 < ((serviced .stroke).slot 0).config.stroke ∧ ((serviced .stroke).slot 0).admission ≠ .vacant ∧
      (((serviced .stroke).updSlot 0 fun s => { s with admission := .vacant }).slot 0).admission = .vacant ∧
      ((serviced .valve).slot 0).config.mode = .valve ∧
      0 < ((serviced .valve).slot 0).valveDue ∧ 0 < ((serviced .valve).slot 0).config.flow := by decide
theorem witness_ServiceLineResult :
    ((opened 30).slot 0).valveOpen = true ∧ 0 < ((opened 30).slot 0).meter.pending ∧
      ((opened 0).slot 0).meter.pending = 0 ∧ ((opened 30).slot 0).admission ≠ .vacant ∧
      (fresh.slot 3).serviceHigh ≠ true ∧ (fresh.slot 3).config.mode = .off := by decide
/-- No request under way, one whose bus is claimed, one with its select asserted, and one that is being sent. -/
theorem witness_TickResult :
    fresh.framePhase < 1000 ∧ ({ fresh with framePhase := 999 } : Device).framePhase < 1000 ∧ fresh.power = .run ∧
      fresh.auditElapsed < fresh.auditPeriod * 60000 ∧ asleep.power ≠ .run ∧ fresh.seq = none ∧
      (under (.claimed 0x01)).seq.map Sequence.phase = some (.claimed 0x01) ∧
      (under (.selecting 0x01 0x01)).seq.map Sequence.phase = some (.selecting 0x01 0x01) ∧
      (under (.sending 0x01 0x01)).seq.map Sequence.phase = some (.sending 0x01 0x01) ∧
      (under (.claimed 0x01)).seq.map Sequence.job = some (.onSlot .debit 0 1) := by decide
theorem witness_AuditExpiryResult :
    ¬(proven.auditPeriod = 0 ∨ ({ proven with auditElapsed := 3600000 } : Device).auditElapsed < proven.auditPeriod * 60000) ∧
      (({ proven with auditElapsed := 3599999 } : Device).auditElapsed < proven.auditPeriod * 60000) ∧
      (proven.slot 0).admission = .admitted ∧ (proven.slot 0).verdict = .proven := by decide
theorem witness_SupplyResult :
    stored.supply = .normal ∧ stored.power ≠ .standby ∧ asleep.supply = .normal ∧ asleep.power = .standby ∧
      ({ fresh with supply := .low } : Device).supply = .low ∧
      (∀ j : SlotNo, j ≠ 0 → (stored.slot j).holdsSerial someId.serial = false) ∧
      (stored.store.lookup someId.serial).isSome = true := by decide +kernel
theorem witness_StoreWriteResult :
    fresh.store.writing = none ∧ fresh.store.queue = [] ++ ⟨.header ⟨1, 0⟩, false⟩ :: [] ∧ QueueOk fresh ∧
      (∀ x ∈ fresh.store.queue, x.carry = true → (⟨.header ⟨1, 0⟩, false⟩ : QueuedWrite).carry = true) ∧
      (writing 5 false).store.writing = some ⟨.header ⟨1, 0⟩, 0, false⟩ ∧
      (writing 5 true).store.writing = some ⟨.header ⟨1, 0⟩, 0, true⟩ ∧ elapsed 4 0 < 5 ∧ 5 ≤ elapsed 5 0 :=
  ⟨by decide, by decide, queueOk_fresh, by decide, by decide, by decide, by decide, by decide⟩
theorem witness_StoreWriteResult_order :
    ∀ before after, fresh.store.queue = before ++ (⟨.header ⟨1, 0⟩, false⟩ : QueuedWrite) :: after →
      ∀ x ∈ before, x.carry ≠ false := by
  intro before after h
  cases before with
  | nil => simp
  | cons x xs => have := congrArg List.length h; simp [fresh, State.reset, Device.afterFirstPowerOn, Store.afterFirstPowerOn] at this
theorem witness_StoreWriteResult_keys :
    (keyWriting true).store.writing = some ⟨.key ⟨1, 2, 3, 4⟩, 0, true⟩ ∧ 5 ≤ elapsed (keyWriting true).tick 0 ∧
      (keyWriting true).keyStore = .storing ⟨1, 2, 3, 4⟩ ∧ (keyWriting true).keysAbsent = false ∧
      (∃ i, ((keyWriting true).slot i).admission = .proving) ∧ ∀ i, ((keyWriting false).slot i).admission ≠ .proving := by
  decide
/-- A level read, and the level that a cartridge pulls and that none pulls. -/
theorem witness_AttentionResult :
    ({ fresh with measure := .running } : Device).measure = .running ∧ fresh.measure ≠ .running ∧
      (∀ e ∈ fresh.work, e.job ≠ .scan) ∧ fresh.busIdle = true ∧ fresh.datLow ≠ true ∧
      (inFlight .debit).busIdle = false ∧ (carted.slot 0).cartridge ≠ none ∧ (fresh.slot 0).cartridge = none ∧
      calling.clockRested = true ∧ calling.busIdle = true ∧
      (calling.slot 0).cartridge.map (fun c => (c.attentionPending, c.attentionSignalled)) = some (true, false) ∧
      carted.clockRested = false := by decide
theorem witness_GrantResult :
    listed.seq = none ∧ listed.supply = .normal ∧ listed.resetReady = false ∧
      listed.work = [] ++ ⟨.onSlot .debit 0 1, Origins.ofInternal, false, Wanted.empty⟩ :: [] ∧
      listed.eligible ⟨.onSlot .debit 0 1, Origins.ofInternal, false, Wanted.empty⟩ = true ∧ listed.power = .run ∧
      (listed.slot 0).meter.inFlight = none ∧
      (listed.slot 0).gate.level = levelOf (listed.slot 0).meter (listed.slot 0).gate ∧ fresh.work = [] := by decide
/-- A PROVE and a scan that may be granted, and a cartridge that hears the request of each. -/
theorem witness_GrantResult_prove :
    keyed.eligible ⟨.onSlot .prove 0 1, Origins.ofInternal, false, Wanted.empty⟩ = true ∧
      keyed.keyStore = .provisioned ⟨1, 2, 3, 4⟩ ∧ (keyed.slot 0).identity = some someId ∧
      carted.eligible ⟨.scan, Origins.ofAttention, false, Wanted.empty⟩ = true ∧
      (0xFF : BitVec 8).getLsbD 0 = true ∧ (genuine.receive (withCrc [0x51])).isSome = true := by decide +kernel
theorem witness_ReplyTimersResult :
    (waiting .debit 30).seq.map Sequence.job = some (.onSlot .debit 0 1) ∧
      (waiting .debit 30).seq.map Sequence.phase = some (.waiting 0) ∧
      elapsed (waiting .debit 30).tick 0 ≤ replyWindow .debit ∧ replyWindow .debit ≤ elapsed (waiting .debit 30).tick 0 ∧
      elapsed (waiting .debit 29).tick 0 < replyWindow .debit ∧ (receiving .debit).attempts < 3 ∧
      (spaced 2).seq.map Sequence.phase = some (.idle 0) ∧ elapsed (spaced 1).tick 0 < 2 ∧
      2 ≤ elapsed (spaced 2).tick 0 ∧ fresh.seq = none := by decide
/-- The third attempt of a DEBIT, a further attempt of a PROVE, and a scan between two attempts at the spurious limit. -/
theorem witness_ReplyTimersResult_ends :
    (explained 20 3).seq.map Sequence.attempts = some 3 ∧ ((explained 20 3).slot 0).insertion = 1 ∧
      ((explained 20 3).slot 0).admission.seated = true ∧
      ({ keyed with seq := some { proving keyed with phase := .idle 0 }, tick := 2 } : Device).keyStore =
        .provisioned ⟨1, 2, 3, 4⟩ ∧
      ({ proven with seq := some { receiving .poll with job := .scan, phase := .idle 0, attempts := 2 }, tick := 2
                     spurious := 2 } : Device).seq.map Sequence.phase = some (.idle 0) ∧
      (Claim.held ≠ .arrives) := by decide +kernel
theorem receiving_inFlight (kind : WorkKind) : Receiving (inFlight kind) (receiving kind) kind 0 :=
  ⟨rfl, rfl, 0, rfl, by cases kind <;> decide⟩
/-- APPLIED with the expected used and with another, STALE with and without a record that explains it, REFUSED. -/
theorem witness_DebitReplyResult : Receiving (inFlight .debit) (receiving .debit) .debit 0 ∧
    ((inFlight .debit).slot 0).meter.posted + (receiving .debit).amount ≤ 4294967295 ∧
    ((inFlight .debit).slot 0).meter.uncertain = none ∧
    ∀ p ∈ [((0xA1 : Byte), 130), (0xA1, 131), (0xA1, 4294967295), (0xA2, 99), (0xA2, 100), (0xA3, 100)],
      p.2 ≤ 4294967295 ∧ (receiving .debit).replyBytes (.read (replyPacket p.1 (beBytes 4 p.2))) =
        some (replyPacket p.1 (beBytes 4 p.2)) :=
  ⟨receiving_inFlight _, by decide, by decide, by
    intro p h
    refine ⟨?_, rfl⟩
    revert p; decide⟩
/-- An explained STALE whose record leaves a rest, and one that leaves none; a follow-on that fails below the third attempt
and at it. -/
theorem witness_DebitReplyResult_explained :
    Receiving (explained 20 1) (receiving .debit) .debit 0 ∧
    (∀ p ∈ [((20 : Nat), (1 : Nat)), (20, 2), (20, 3), (30, 1)],
      ((explained p.1 p.2).slot 0).meter.uncertain = some ⟨100, p.1⟩ ∧ 100 + p.1 = (receiving .debit).expected + p.1 ∧
      ((explained p.1 p.2).slot 0).meter.posted + p.1 ≤ 4294967295 ∧
      (explained p.1 p.2).seq.map Sequence.attempts = some p.2) ∧
    20 < (receiving .debit).amount ∧ (receiving .debit).amount ≤ 30 :=
  ⟨⟨rfl, rfl, 0, rfl, by decide⟩, by decide, by decide, by decide⟩
/-- A confirmed used that reaches the capacity and passes the refresh base by 1,000 µL. -/
theorem witness_DebitReplyResult_posts :
    let d : Device := (inFlight .debit).updMeter 0 fun m => { m with refreshBase := some 100 }
    let v := 1131
    v ≠ (receiving .debit).expected + (receiving .debit).amount ∧ (d.slot 0).meter.refreshBase = some 100 ∧
      100 + 1000 ≤ v ∧ (d.slot 0).merged = true ∧ (d.slot 0).meter.capacity = some 1000 ∧ 1000 ≤ v ∧
      (d.slot 0).knownMarks.exhausted = false := by decide
theorem witness_IdentifyReplyResult :
    Receiving identifying (receiving .identify) .identify 0 ∧ (identifying.slot 0).admission = .identifying ∧
      IdentitiesOk identifying ∧ someId.capacity ≤ 4294967295 ∧ someId.used ≤ 4294967295 ∧ (identifying.slot 0).held = none ∧
      (receiving .identify).replyBytes (.read genuine.identifyReply) = some genuine.identifyReply :=
  ⟨⟨rfl, rfl, 0, rfl, by decide⟩, by decide, identitiesOk_identifying, by decide, by decide, by decide, rfl⟩
/-- A closed account, a serial that another slot holds, a BLANK key store, and a held identity of another serial. -/
theorem witness_IdentifyReplyResult_forms :
    ((identifying.updMeter 0 fun _ => Meter.vacant).slot 0).meter.capacity = none ∧
      ((identifying.updSlot 1 fun _ => provenSlot).slot 1).identity.map Identity.serial = some someId.serial ∧
      (provenSlot.flags.duplicate = false) ∧ identifying.keyStore = .blank ∧ identifying.keysAbsent = false ∧
      ((identifying.updSlot 0 fun s => { s with held := some { someId with serial := 8 } }).slot 0).held.map
        Identity.serial ≠ some someId.serial ∧
      ((identifying.updSlot 0 fun s => { s with held := some someId }).slot 0).held = some someId := by decide
theorem witness_ProveReplyResult :
    Receiving { keyed with seq := some (proving keyed) } (proving keyed) .prove 0 ∧
      (keyed.slot 0).identity = some someId ∧ (∃ h, (proving keyed).proveHold = some h) ∧
      (keyed.slot 0).admission = .proving ∧ (proven.slot 0).admission = .admitted ∧ (proven.slot 0).verdict = .proven ∧
      (proving keyed).replyBytes (.read (replyPacket 0xA0 (beBytes 4 (1 : Word).toNat ++ beBytes 4 (2 : Word).toNat))) =
        some (replyPacket 0xA0 (beBytes 4 (1 : Word).toNat ++ beBytes 4 (2 : Word).toNat)) :=
  ⟨⟨rfl, rfl, 0, rfl, by decide⟩, rfl, ⟨_, rfl⟩, rfl, by decide, by decide, rfl⟩
/-- A first merge with an entry found, without and with an uncertain record that the used shows applied or not, one with
another merged slot of the serial, and a re-check. -/
theorem witness_ProveReplyResult_merges :
    (keyed.entryOf 7 = none ∧ (known none).entryOf 7 ≠ none ∧ ((known none).slot 0).merged = false) ∧
      (∀ u ∈ [some ⟨90, 10⟩, some ⟨100, 10⟩], ((known u).entryOf 7).bind HistoryEntry.uncertain = u) ∧
      someId.used = 90 + 10 ∧ someId.used ≠ 100 + 10 ∧
      (((known none).updSlot 1 fun _ => provenSlot).slot 1).merged = true ∧
      (((known none).updSlot 1 fun _ => provenSlot).slot 1).holdsSerial 7 = true ∧
      ((slot0 fun s => { s with admission := .proving, verdict := .none }).slot 0).merged = true := by decide +kernel
theorem witness_MarksAndBadReplies :
    Receiving (inFlight .mark) (receiving .mark) .mark 0 ∧ (receiving .mark).attempts < 3 ∧
      crc8 [0xA0, 0x01, 0x00] ≠ 0 ∧ ([0xA0, 0x01, 0x00] : List Byte).length = replyLength .mark ∧
      (⟨true, false, true⟩ : Marks).holds ((inFlight .mark).slot 0).knownMarks = true ∧
      (⟨true, false, true⟩ : Marks).holds (receiving .mark).marksSent.toMarks = true ∧ fresh.seq = none :=
  ⟨receiving_inFlight _, by decide, by decide +kernel, by decide, by decide, by decide, by decide⟩
/-- A status of another op and of none, marks without a known one and without the one sent, and cause SEAL without the
mark; a reply prepared and none. -/
theorem witness_MarksAndBadReplies_fails :
    (replyPacket 0xA1 [0]).length = replyLength .mark ∧ (replyPacket 0xA4 (beBytes 4 130)).length = replyLength .debit ∧
      Marks.empty.holds ⟨false, true, false⟩ = false ∧ Marks.empty.holds (⟨true, false⟩ : Wanted).toMarks = false ∧
      (replyPacket 0xA0 [0, 1]).length = replyLength .poll ∧ (Marks.ofByte 0).sealMark = false ∧
      (receiving .poll).prepared = none ∧ ({ receiving .poll with prepared := some [0] } : Sequence).prepared = some [0] ∧
      ({ receiving .poll with attempts := 3 } : Sequence).attempts = 3 := by decide +kernel
theorem witness_ScanEndsResult :
    scanning.seq.map Sequence.phase = some (.scanning 0x01) ∧
      (∀ i : SlotNo, (0x01 : BitVec 8).getLsbD i.val = ((0x01 : BitVec 8).getLsbD i.val && (0xFF : BitVec 8).getLsbD i.val)) ∧
      (∀ i : SlotNo, (0x00 : BitVec 8).getLsbD i.val = ((0x01 : BitVec 8).getLsbD i.val && (0xFE : BitVec 8).getLsbD i.val)) ∧
      (scanning.slot 0).identity.isSome = true ∧ scanning.spurious + 1 < 3 ∧
      3 ≤ ({ scanning with spurious := 2 } : Device).spurious + 1 ∧ fresh.seq = none := by decide +kernel

end Sys2Proof.Tests
end

/-! ## Proof of origin (chapter 4): the audit period and the provisioning of the key -/

namespace Sys2Proof.Proofs

open Sys2Proof Sys2Proof.Machine Sys2Proof.Safety Sys2Proof.Laws

/-! ### The judgement of a command on its own link -/

/-- An answer that takes the place of the waiting reply, and nothing else, only answers. -/
theorem onlyAnswers_answer (d : Device) (f : Frame) (r : Result) (echo : Byte) :
    OnlyAnswers d ((d.clockOut f.link (clocked f)).answer f.link r echo []) f r echo :=
  ⟨replies_answer .., quiet_answer ..⟩

/-- A device that has the link's port of `d` shifts out the reply that waited in `d`. -/
theorem replies_of_port {d e : Device} {l : Link} (h : e.port l = d.port l) (n : Nat) (r : Result) (echo : Byte)
    (payload : List Byte) : Replies d ((e.clockOut l n).answer l r echo payload) l n r echo payload := by
  unfold Replies
  rw [← h]
  exact replies_answer ..

/-- Such a device, answered, is itself again once the traffic of the transaction is taken out. -/
theorem quiet_of_port {d e : Device} {l : Link} (h : e.port l = d.port l) (n : Nat) (r : Result) (echo : Byte)
    (payload : List Byte) : quiet d ((e.clockOut l n).answer l r echo payload) l = e := by
  unfold quiet
  rw [← h]
  exact quiet_answer ..

/-- A command that its link permits, of a device that is not busy and would refuse it in STANDBY, is answered ASLEEP,
refused INVALID, or taken (R159, steps 4 to 6). -/
theorem judge_permitted {α : Type} (c : Command α) (f : Frame) (d : Device) (hlen : f.payload.length ≤ maxPayload)
    (hcarry : d.resetCarry = false) (hlink : c.permits f.link = true) (hsleep : c.inStandby = false) :
    (d.power = .standby ∧ OnlyAnswers d (c.judge f d) f .asleep c.code) ∨
    (d.power ≠ .standby ∧ c.read f.payload = none ∧ OnlyAnswers d (c.judge f d) f .invalid c.code) ∨
    (d.power ≠ .standby ∧ ∃ a, c.read f.payload = some a ∧
      c.judge f d =
        (c.act f.link a (d.clockOut f.link (clocked f))).dev.answer f.link
          (c.act f.link a (d.clockOut f.link (clocked f))).result c.code
          (c.act f.link a (d.clockOut f.link (clocked f))).payload) := by
  have awake (h : d.power = .standby → c.inStandby = true) : d.power ≠ .standby := fun hs => by simp [h hs] at hsleep
  rcases judge_cases c f d hlen with ⟨r, hj, hbusy | hlocked | hasleep | hinvalid⟩ | ⟨a, -, -, hs, ha, hj⟩
  · simp [hcarry] at hbusy
  · simp [hlink] at hlocked
  · obtain ⟨-, -, hs, -, rfl⟩ := hasleep
    exact .inl ⟨hs, hj ▸ onlyAnswers_answer ..⟩
  · obtain ⟨-, -, hs, hnone, rfl⟩ := hinvalid
    exact .inr (.inl ⟨awake hs, hnone, hj ▸ onlyAnswers_answer ..⟩)
  · exact .inr (.inr ⟨awake hs, a, ha, hj⟩)

/-! ### What the end of a request leaves alone -/

/-- A record written back as it was changes nothing. -/
theorem updSlot_id (d : Device) (i : SlotNo) : d.updSlot i (fun s => s) = d := by
  simp [Device.updSlot, Device.slot, Vector.get_eq_getElem]

/-- A scan request that cartridges hear is an update of every slot's record. -/
theorem hearScan_eq_updAll (d : Device) (heard : BitVec 8) :
    d.hearScan heard = d.updAll fun i s =>
      if heard.getLsbD i.val = true then { s with cartridge := s.cartridge.map Cartridge.hearScan } else s := by
  unfold Device.hearScan Device.updAll
  congr 1
  funext d i
  by_cases h : heard.getLsbD i.val = true
  · simp only [if_pos h]
  · simp only [if_neg h, updSlot_id]

/-- The end of a request changes nothing of the device but its slots and the sequence. -/
theorem sendWhole_frame (d : Device) (q : Sequence) (selected whole : BitVec 8) :
    ∃ seq slots, d.sendWhole q selected whole = { d with seq := seq, slots := slots } := by
  unfold Device.sendWhole
  cases q.job with
  | scan =>
    dsimp only
    rw [Device.sendScan, hearScan_eq_updAll]
    obtain ⟨slots, h⟩ := updAll_frame d fun i s =>
      if (selected &&& whole).getLsbD i.val = true then { s with cartridge := s.cartridge.map Cartridge.hearScan } else s
    exact ⟨_, slots, by rw [h]⟩
  | onSlot kind i n => exact ⟨_, _, rfl⟩

/-- At a tick advance too, a request that ends changes nothing but the slots and the sequence. -/
theorem requestEnds_frame (d : Device) : ∃ seq slots, d.requestEnds = { d with seq := seq, slots := slots } := by
  unfold Device.requestEnds
  split
  · exact ⟨d.seq, d.slots, rfl⟩
  · split
    case h_4 | h_5 | h_6 | h_7 => exact ⟨d.seq, d.slots, rfl⟩
    all_goals exact sendWhole_frame ..

@[simp] theorem requestEnds_auditElapsed (d : Device) : d.requestEnds.auditElapsed = d.auditElapsed := by
  obtain ⟨_, _, h⟩ := requestEnds_frame d
  rw [h]

/-! ### The audit timer (R69) -/

/-- A millisecond moves the elapsed time as the audit timer advances, and by nothing else. -/
theorem tickAdvance_auditElapsed (d : Device) : d.tickAdvance.auditElapsed = d.auditAdvance := by
  unfold Device.tickAdvance
  rw [requestEnds_auditElapsed, updAll_auditElapsed]

/-- Outside RUN, and while the period is 0, the audit timer stands. -/
theorem auditAdvance_stopped (d : Device) (h : d.auditPeriod = 0 ∨ d.power ≠ .run) : d.auditAdvance = d.auditElapsed := by
  refine if_neg fun ⟨hrun, hperiod⟩ => ?_
  rcases h with h | h
  · omega
  · exact h hrun

/-- The device with the audit period `p` and its timer restarted. -/
def audited (d : Device) (p : Nat) : Device := { d with auditPeriod := p, auditElapsed := 0 }

/-- SET AUDIT, taken, leaves the period and the restarted timer, and its answer. -/
theorem act_setAudit (d : Device) (l : Link) (n p : Nat) :
    setAuditCommand.act l p (d.clockOut l n) = taken .ok ((audited d p).clockOut l n) := by
  cases l <;> rfl

/-- After a SET AUDIT that writes 0, and outside RUN, no millisecond advances the timer. -/
theorem audited_stands (d : Device) (l : Link) (n p : Nat) (r : Result) (echo : Byte) (payload : List Byte)
    (h : p = 0 ∨ d.power ≠ .run) :
    (((audited d p).clockOut l n).answer l r echo payload).tickAdvance.auditElapsed = 0 := by
  rw [tickAdvance_auditElapsed, answer_clockOut, auditAdvance_stopped _ (by simpa [audited] using h), updPort_auditElapsed]
  rfl

/-- Settles O27, by the possible ends of the judgement and the audit timer's standstill. -/
theorem setAuditResult : Obligations.SetAuditResult := by
  intro f s m hlink hcarry hpay
  refine ⟨setAuditCommand.judge f s.dev, rfl, ?_⟩
  beta_reduce
  have hlen : f.payload.length ≤ maxPayload := by simp [hpay, maxPayload]
  have hread : setAuditCommand.read f.payload = some (min 240 m.toNat) := by rw [hpay]; rfl
  rcases judge_permitted setAuditCommand f s.dev hlen hcarry (by rw [hlink]; rfl) rfl with
    ⟨hs, h⟩ | ⟨-, hnone, -⟩ | ⟨hs, p, hp, h⟩
  · rw [if_pos hs]; exact h
  · rw [hread] at hnone; cases hnone
  · obtain rfl : min 240 m.toNat = p := Option.some.inj (hread.symm.trans hp)
    rw [act_setAudit, hlink] at h
    rw [if_neg hs, h]
    dsimp only [taken]
    have hport : (audited s.dev (min 240 m.toNat)).port .system = s.dev.port .system := rfl
    refine ⟨replies_of_port hport .., rfl, rfl, ?_, fun hstop => audited_stands _ _ _ _ _ _ _ ?_⟩
    · rw [quiet_of_port hport]; rfl
    · rcases hstop with rfl | hdown
      · exact .inl rfl
      · exact .inr (by simp [hdown])

/-! ### The bytes of a key (R58, R59) -/

theorem beNat_concat (p : List Byte) (b : Byte) : beNat (p ++ [b]) = beNat p * 256 + b.toNat := by simp [beNat]

/-- The number that bytes spell, sent in as many bytes, is those bytes. -/
theorem beBytes_beNat (p : List Byte) : beBytes p.length (beNat p) = p := by
  induction p using List.reverseRecOn with
  | nil => rfl
  | append_singleton p b ih =>
    have hdiv : (beNat p * 256 + b.toNat) / 256 = beNat p := by have := b.isLt; omega
    have hlast : BitVec.ofNat 8 (beNat p * 256 + b.toNat) = b := by
      apply BitVec.eq_of_toNat_eq; simp [Nat.mod_eq_of_lt b.isLt]
    rw [List.length_append, List.length_singleton, beNat_concat, beBytes, hdiv, hlast, ih]

/-- Bytes spell a number that fits in them. -/
theorem beNat_lt (p : List Byte) : beNat p < 256 ^ p.length := by
  induction p using List.reverseRecOn with
  | nil => decide
  | append_singleton p b ih =>
    have := b.isLt
    rw [beNat_concat, List.length_append, List.length_singleton, Nat.pow_succ]
    omega

/-- The four bytes that a word was read from are the bytes that it is sent in. -/
theorem beBytes_word (p : List Byte) (h : p.length = 4) : beBytes 4 (BitVec.ofNat 32 (beNat p)).toNat = p := by
  have hlt : beNat p < 2 ^ 32 := by simpa [h] using beNat_lt p
  rw [BitVec.toNat_ofNat, Nat.mod_eq_of_lt hlt, ← h, beBytes_beNat]

theorem readKey_none {p : List Byte} (h : readKey p = none) : p.length ≠ 16 := fun hlen => by
  simp [readKey, hlen] at h

/-- A key is read from 16 bytes alone, and its four words are those bytes. -/
theorem readKey_some {p : List Byte} {k : Key} (h : readKey p = some k) :
    p.length = 16 ∧
      beBytes 4 k.k0.toNat ++ beBytes 4 k.k1.toNat ++ beBytes 4 k.k2.toNat ++ beBytes 4 k.k3.toNat = p := by
  unfold readKey at h
  split at h
  next hlen =>
    cases h
    have word (n : Nat) (hn : n ≤ 12) :
        beBytes 4 (BitVec.ofNat 32 (beNat ((p.drop n).take 4))).toNat = (p.drop n).take 4 :=
      beBytes_word _ (by simp; omega)
    refine ⟨hlen, ?_⟩
    dsimp only
    rw [word 0 (by decide), word 4 (by decide), word 8 (by decide), word 12 (by decide), List.drop_zero,
      ← List.take_add, ← List.take_add, ← List.take_add, List.take_of_length_le hlen.le]
  next => cases h

/-! ### The staging of a key (R59) -/

/-- A write of an item that no queued write names goes to the end of the queue. -/
theorem enqueue_new (st : Store) (w : StoreWrite) (carry : Bool) (h : ∀ x ∈ st.queue, x.write.item ≠ w.item) :
    (st.enqueue w carry).queue = st.queue ++ [⟨w, carry⟩] := by
  unfold Store.enqueue
  rw [if_neg (by simpa using h)]

/-- With a write queued the store is not idle. -/
theorem enqueue_idle (st : Store) (w : StoreWrite) (carry : Bool) : (st.enqueue w carry).idle = false := by
  obtain ⟨x, hx, -⟩ := enqueue_mem st w carry
  simp [Store.idle, List.ne_nil_of_mem hx]

/-- Winding down cannot end while the store has work. -/
theorem ready_store_busy (d : Device) (h : d.store.idle = false) : d.ready = false := by simp [Device.ready, h]

/-- The device with a key staged and its write queued. -/
def staged (d : Device) (k : Key) : Device :=
  { d with keyStore := .storing k, store := d.store.enqueue (.key k) false }

/-- On a BLANK key store PROVISION KEYS, taken, stages the key. -/
theorem act_provisionKeys_blank (d : Device) (l : Link) (n : Nat) (k : Key) (h : d.keyStore = .blank) :
    provisionKeysCommand.act l k (d.clockOut l n) = taken .accepted ((staged d k).clockOut l n) := by
  change (d.clockOut l n).provisionKeys k = _
  have hkeys : (d.clockOut l n).keyStore = .blank := (updPort_keyStore ..).trans h
  simp only [Device.provisionKeys, hkeys]
  cases l <;> rfl

/-- On a key store that is not BLANK a taken PROVISION KEYS is LOCKED, and the device stays. -/
theorem act_provisionKeys_locked (d : Device) (l : Link) (n : Nat) (k : Key) (h : d.keyStore ≠ .blank) :
    provisionKeysCommand.act l k (d.clockOut l n) = taken .locked (d.clockOut l n) := by
  change (d.clockOut l n).provisionKeys k = _
  have hkeys : (d.clockOut l n).keyStore = d.keyStore := updPort_keyStore ..
  cases hk : d.keyStore with
  | blank => exact absurd hk h
  | storing _ | provisioned _ => simp only [Device.provisionKeys, hkeys, hk]

/-- Staging a key changes the key store and the queue alone. -/
theorem staged_frame (d : Device) (k : Key) (h : d.keyStore = .blank) :
    { staged d k with keyStore := .blank, store := { (staged d k).store with queue := d.store.queue } } = d := by
  simp only [staged, enqueue_frame, ← h]

/-- Settles O28, by the ends of the judgement and the state of the key store. -/
theorem provisionKeysResult : Obligations.ProvisionKeysResult := by
  intro f s hlink hlen hcarry
  refine ⟨provisionKeysCommand.judge f s.dev, rfl, ?_⟩
  beta_reduce
  rcases judge_permitted provisionKeysCommand f s.dev hlen hcarry (by rw [hlink]; rfl) rfl with
    ⟨hs, h⟩ | ⟨hs, hnone, h⟩ | ⟨hs, k, hk, h⟩
  · rw [if_pos hs]; exact h
  · rw [if_neg hs, if_neg (readKey_none hnone)]; exact h
  · obtain ⟨h16, hbytes⟩ := readKey_some hk
    rw [if_neg hs, if_pos h16]
    cases hstore : s.dev.keyStore with
    | blank =>
      rw [act_provisionKeys_blank _ _ _ k hstore, hlink] at h
      rw [h]
      dsimp only [taken]
      have hport : (staged s.dev k).port .system = s.dev.port .system := rfl
      refine ⟨k, hbytes, replies_of_port hport .., rfl, ready_store_busy _ (enqueue_idle s.dev.store (.key k) false),
        enqueue_new s.dev.store (.key k) false, ?_⟩
      rw [quiet_of_port hport]
      exact staged_frame s.dev k hstore
    | storing _ | provisioned _ =>
      rw [act_provisionKeys_locked _ _ _ k (by simp [hstore])] at h
      rw [h]
      exact onlyAnswers_answer ..

end Sys2Proof.Proofs
